-- ==== Sys2Proof/Word.lean ====
section
/-! DEFINITION. The byte of the serial line (R181). -/

namespace Sys2Proof

/-- One byte on RXD or TXD (R181). -/
abbrev Byte := BitVec 8

end Sys2Proof
end

