-- ==== Sys2Proof/Config.lean ====
section
/-! DEFINITION. The constants the manual fixes for every part, and the two values it leaves open, which
have no body (notes/assumptions/35.md and 36.md). -/

namespace Sys2Proof.Config

/-- The largest value of a 32-bit count (R13, R128, R169). -/
def max32 : Nat := 4294967295

/-- Ticks of the active source in one second (R4). -/
def ticksPerSecond : Nat := 32768

/-- Fast-reference cycles per tick (R5). -/
def fastPerTick : Nat := 128

/-- The fast reference in hertz (R5). -/
def fastHz : Nat := 4194304

/-- The accepted band of a window's crystal count (R6). -/
def windowLow : Nat := 3686

/-- The accepted band of a window's crystal count (R6). -/
def windowHigh : Nat := 4506

/-- Crystal cycles two nominal windows hold (R7). -/
def twoWindows : Nat := 8192

/-- Windows a pending switch is given (R10). -/
def switchWindows : Nat := 80

/-- Good windows in a row that complete a switch (R6). -/
def goodWindows : Nat := 4

/-- Bad windows in a row that fail the crystal (R6). -/
def badWindows : Nat := 2

/-- The relock interval of the multiplier in milliseconds (R5). -/
def relockMs : Nat := 5

/-- The timeout of a pressure measurement in milliseconds (R27). -/
def pressureTimeoutMs : Nat := 2000

/-- The cadence slot in milliseconds (R92). -/
def slotMs : Nat := 100

/-- The longest gap between two bytes of a frame in milliseconds (R181). -/
def interbyteMs : Nat := 20

/-- The limits of a quadrature count (2.1). -/
def countMin : Int := -8388608

/-- The limits of a quadrature count (2.1). -/
def countMax : Int := 8388607

/-- The limit of a phase-error tally, and of the ROTOR count (R21, R26). -/
def max16 : Nat := 65535

/-- The limits of a stage (R39). -/
def stageMin : Int := -2000

/-- The limits of a stage (R39). -/
def stageMax : Int := 32000

/-- The largest discharge (R72, 5.1). -/
def dischargeMax : Int := 50000000

/-- Entries of the stage history (R66). -/
def historySize : Nat := 64

/-- Records of the interval region (R169). -/
def archiveSize : Nat := 8000

/-- The start byte of a frame (R181). -/
def startByte : BitVec 8 := 0xC3

/-- The longest payload of a frame (12.1). -/
def maxPayload : Nat := 240

/-! Free values. -/

/-- The check value of a stored plan with these numbers in it; the manual does not say how it is
computed (R122; notes/assumptions/35.md). -/
opaque checkValue : List Int → Nat

/-- The check value of a stored rating table with these numbers in it (5.1, R76;
notes/assumptions/35.md). -/
opaque ratingCheckValue : List Int → Nat

/-- The check value of a stored copy of the settings with these numbers in it (R190;
notes/assumptions/35.md). -/
opaque settingsCheckValue : List Int → Nat

/-- The code of the method in effect that GET_PLAN reports for a DEFAULT entry while the buffer has no
header; the manual names none (R114, R119; notes/assumptions/36.md). -/
opaque methodWithoutHeader : Nat

end Sys2Proof.Config
end

