-- ==== Sys2Proof/Machine/Bytes.lean ====
section
/-! DEFINITION. Bytes on the line: numbers, presence bytes, counted lists, the CRC and whole frames
(R181, R182, R186). -/

namespace Sys2Proof.Machine

open Sys2Proof.Config

/-! Numbers (R186). -/

/-- One byte. -/
def byte (n : Nat) : Byte := BitVec.ofNat 8 n

/-- An unsigned number of one byte. -/
def u8 (n : Nat) : List Byte := [byte n]

/-- An unsigned number of two bytes, the most significant first. -/
def u16 (n : Nat) : List Byte := [byte (n / 256), byte n]

/-- An unsigned number of four bytes, the most significant first. -/
def u32 (n : Nat) : List Byte :=
  [byte (n / 16777216), byte (n / 65536), byte (n / 256), byte n]

/-- A signed number of two bytes, in two's complement. -/
def i16 (x : Int) : List Byte := u16 (x % 65536).toNat

/-- A signed number of four bytes, in two's complement. -/
def i32 (x : Int) : List Byte := u32 (x % 4294967296).toNat

/-- Yes 1 or no 0. -/
def yesNo (b : Bool) : List Byte := u8 (if b then 1 else 0)

/-- A set of flags in one byte, bit 0 for the first listed. -/
def flagSet (l : List Bool) : List Byte :=
  u8 ((l.zipIdx 0).foldl (fun n p => if p.1 then n + 2 ^ p.2 else n) 0)

/-- An optional field: its presence byte, then its bytes, or the zeros that stand for it. -/
def optional {α : Type} (absent : List Byte) (f : α → List Byte) : Option α → List Byte
  | some a => byte 1 :: f a
  | none => byte 0 :: absent

/-- An optional unsigned number of one byte. -/
def optU8 : Option Nat → List Byte := optional (u8 0) u8

/-- An optional unsigned number of two bytes. -/
def optU16 : Option Nat → List Byte := optional (u16 0) u16

/-- An optional unsigned number of four bytes. -/
def optU32 : Option Nat → List Byte := optional (u32 0) u32

/-- An optional signed number of two bytes. -/
def optI16 : Option Int → List Byte := optional (u16 0) i16

/-- An optional signed number of four bytes. -/
def optI32 : Option Int → List Byte := optional (u32 0) i32

/-- A list: its count byte, then its items. -/
def counted {α : Type} (f : α → List Byte) (l : List α) : List Byte :=
  u8 l.length ++ l.flatMap f

/-- A name: its count byte, then its characters. -/
def name (l : List Byte) : List Byte := counted (fun b => [b]) l

/-! The CRC (R182). -/

/-- The CRC shifted left by one bit, with the polynomial when the bit shifted out is 1. -/
def crcShift (c : BitVec 16) : BitVec 16 :=
  if c.getLsbD 15 then (c <<< 1) ^^^ 0x1021 else c <<< 1

/-- The CRC after one more byte. -/
def crcByte (c : BitVec 16) (b : Byte) : BitVec 16 :=
  let x := c ^^^ ((b.setWidth 16) <<< 8)
  crcShift (crcShift (crcShift (crcShift (crcShift (crcShift (crcShift (crcShift x)))))))

/-- The CRC over a list of bytes. -/
def crc (l : List Byte) : BitVec 16 := l.foldl crcByte 0xFFFF

/-- The two CRC bytes, the high byte first. -/
def crcBytes (l : List Byte) : List Byte := u16 (crc l).toNat

/-- A whole frame from its kind, tag and payload (12.1, R181). -/
def frame (kind tag : Byte) (payload : List Byte) : List Byte :=
  let body := byte payload.length :: kind :: tag :: payload
  startByte :: body ++ crcBytes body

end Sys2Proof.Machine
end

