-- ==== Sys2Proof/Syntax.lean ====
section
/-! DEFINITION. The commands the part takes: one constructor of `Instr` per row of the table. The
table gives the rows no fields; the operands are those the rules name. A request carries its tag
(R183) and the fields of its payload. A number that its owner clamps or refuses is an unbounded
`Int` or `Nat`; a code outside its list is a `Nat` out of range. -/

namespace Sys2Proof

/-- The quadrature channels (2.1). -/
inductive Chan where
  | float | travel | reel
deriving DecidableEq, Repr

/-- The eight contact inputs, in the order of 2.6, which is also the order of their bits. -/
inductive Contact where
  | surface | bed | reelTop | limitNear | limitFar | driveFault | door | spare
deriving DecidableEq, Repr

/-- The entry that PUT_VERTICAL carries, by its kind (R116). -/
inductive VertForm where
  /-- an EDGE entry: x, edge_depth, edge_coef -/
  | edge (x depth coef : Int)
  /-- a METERED entry: x, the method's code (AUTO, ONE, TWO, THREE, SURFACE, DEFAULT), exposure, repeats -/
  | metered (x : Int) (method : Nat) (exposure repeats : Int)
deriving DecidableEq, Repr

/-- The slot that RESULT_READ names (R180). -/
inductive SlotName where
  | number (n : Nat)
  | newest
deriving DecidableEq, Repr

/-- The commands: one constructor per row of the opcode table, in its order. -/
inductive Instr where
  /-- COLD_RESET (R1) -/
  | coldReset
  /-- WARM_SUPPLY_RETURN (R1) -/
  | warmSupplyReturn
  /-- RESET_INPUT_PULSE (R1) -/
  | resetInputPulse
  /-- POWER_GOOD_LOSS (R34) -/
  | powerGoodLoss
  /-- SECOND_EVENT (R13) -/
  | secondEvent
  /-- WINDOW_CLOSE (R6): the crystal cycles counted in the window -/
  | windowClose (count : Nat)
  /-- MULTIPLIER_LOCK (R5) -/
  | multiplierLock
  /-- GRID_INSTANT (R62) -/
  | gridInstant
  /-- PRESSURE_EDGE (R27): counter B as it stands at the edge -/
  | pressureEdge (b : Nat)
  /-- PRESSURE_COMPLETE (R27): counter B as it stands at the N-th edge -/
  | pressureComplete (b : Nat)
  /-- PRESSURE_TIMEOUT (R28) -/
  | pressureTimeout
  /-- QUADRATURE_TRANSITION (R20): the channel and the pair now observed -/
  | quadratureTransition (ch : Chan) (a b : Bool)
  /-- FLOAT_INDEX_EDGE (R24) -/
  | floatIndexEdge
  /-- ROTOR_EDGE (R26): the ticks that pass before the edge -/
  | rotorEdge (elapsed : Nat)
  /-- CONTACT_RAW_CHANGE (R29): the input, its new raw level, the ticks that pass before the change -/
  | contactRawChange (input : Contact) (level : Bool) (elapsed : Nat)
  /-- DEBOUNCE_EXPIRY (R29) -/
  | debounceExpiry (input : Contact)
  /-- DRIVE_STALL (R109) -/
  | driveStall
  /-- SETTLE_END (R108) -/
  | settleEnd
  /-- EXPOSURE_START (R137) -/
  | exposureStart
  /-- EXPOSURE_EXPIRY (R137) -/
  | exposureExpiry
  /-- HOLD_LIMIT_EXPIRY (R144) -/
  | holdLimitExpiry
  /-- CADENCE_SLOT (R92) -/
  | cadenceSlot
  /-- RATING_COMMIT_COMPLETE (R77, R78): whether flash and read-back succeeded -/
  | ratingCommitComplete (ok : Bool)
  /-- SETTINGS_STORE_COMPLETE (R190): whether flash and read-back succeeded -/
  | settingsStoreComplete (ok : Bool)
  /-- PLAN_STORE_COMPLETE (R123): whether flash and read-back succeeded -/
  | planStoreComplete (ok : Bool)
  /-- PLAN_LOAD_COMPLETE (R125): whether the slot's check value matches -/
  | planLoadComplete (ok : Bool)
  /-- FRAME_INTERBYTE_TIMEOUT (R181) -/
  | frameInterbyteTimeout
  /-- FRAME_LENGTH_INVALID (R181) -/
  | frameLengthInvalid
  /-- FRAME_BYTE_FRAMING_ERROR (R181) -/
  | frameByteFramingError
  /-- FRAME_CRC_MISMATCH (R181) -/
  | frameCrcMismatch
  /-- REPLY_SENT (R183) -/
  | replySent
  /-- UNKNOWN_REQUEST (R184): the kind of the accepted frame, and its tag -/
  | unknownRequest (kind : Byte) (tag : Byte)
  /-- STATUS (R193) -/
  | status (tag : Byte)
  /-- GET_STAGE (R68) -/
  | getStage (tag : Byte)
  /-- GET_TIME (R16) -/
  | getTime (tag : Byte)
  /-- SET_TIME (R14) -/
  | setTime (tag : Byte) (value : BitVec 32)
  /-- SET_CLOCK_SOURCE CRYSTAL (R8) -/
  | setClockSourceCrystal (tag : Byte)
  /-- SET_CLOCK_SOURCE RC (R8) -/
  | setClockSourceRc (tag : Byte)
  /-- GET_SETTING (R188): the identifier -/
  | getSetting (tag : Byte) (id : BitVec 16)
  /-- PUT_SETTING (R189): the identifier and the value, absent with a presence byte of 0 -/
  | putSetting (tag : Byte) (id : BitVec 16) (value : Option Int)
  /-- STORE_SETTINGS (R190) -/
  | storeSettings (tag : Byte)
  /-- SET_REFERENCE SHAFT (R41): the staff reading -/
  | setReferenceShaft (tag : Byte) (staff : Int)
  /-- SET_REFERENCE PRESSURE (R42): the staff reading -/
  | setReferencePressure (tag : Byte) (staff : Int)
  /-- PUT_RATING_ROW (R73) -/
  | putRatingRow (tag : Byte) (index : Nat) (stage discharge : Int)
  /-- CLEAR_RATING_STAGING (R74) -/
  | clearRatingStaging (tag : Byte)
  /-- GET_RATING (R74): the choice's code, ACTIVE 0 or STAGING 1 -/
  | getRating (tag : Byte) (table : Nat)
  /-- COMMIT_RATING (R75) -/
  | commitRating (tag : Byte)
  /-- ACK_WARNING (R95): the level's code, NORMAL 0 to SEVERE 3 -/
  | ackWarning (tag : Byte) (level : Nat)
  /-- SET_CAPTURE ARM (R32): the line set and the notice choice -/
  | setCaptureArm (tag : Byte) (lines : Byte) (notice : Bool)
  /-- SET_CAPTURE DISARM (R32): the line set -/
  | setCaptureDisarm (tag : Byte) (lines : Byte)
  /-- SET_CAPTURE SELECT (R32): the line set and the polarity set -/
  | setCaptureSelect (tag : Byte) (lines : Byte) (polarity : Byte)
  /-- READ_LINES (R33) -/
  | readLines (tag : Byte)
  /-- JOG TRAVEL to a position (R112) -/
  | jogTravelPosition (tag : Byte) (x : Int)
  /-- JOG TRAVEL HOME (R112) -/
  | jogTravelHome (tag : Byte)
  /-- JOG REEL to a payout (R112) -/
  | jogReelPayout (tag : Byte) (x : Int)
  /-- JOG REEL TOP (R112) -/
  | jogReelTop (tag : Byte)
  /-- STOP (R111) -/
  | stop (tag : Byte)
  /-- PUT_PLAN_HEADER (R115): name, vertical count, the default method's code -/
  | putPlanHeader (tag : Byte) (name : List Byte) (count : Nat) (method : Nat)
  /-- PUT_VERTICAL (R116) -/
  | putVertical (tag : Byte) (index : Nat) (entry : VertForm)
  /-- VALIDATE_PLAN (R118) -/
  | validatePlan (tag : Byte)
  /-- GET_PLAN (R119): the starting index -/
  | getPlan (tag : Byte) (start : Nat)
  /-- STORE_PLAN (R122) -/
  | storePlan (tag : Byte) (slot : Nat)
  /-- LOAD_PLAN (R124) -/
  | loadPlan (tag : Byte) (slot : Nat)
  /-- START_RUN (R127) -/
  | startRun (tag : Byte)
  /-- HOLD_RUN (R145) -/
  | holdRun (tag : Byte)
  /-- RESUME_RUN (R146) -/
  | resumeRun (tag : Byte)
  /-- ABORT_RUN (R147) -/
  | abortRun (tag : Byte)
  /-- ARCHIVE_SEEK OLDEST (R176) -/
  | archiveSeekOldest (tag : Byte)
  /-- ARCHIVE_SEEK NEWEST (R176) -/
  | archiveSeekNewest (tag : Byte)
  /-- ARCHIVE_SEEK SEQ n (R176) -/
  | archiveSeekSeq (tag : Byte) (n : BitVec 32)
  /-- ARCHIVE_SEEK TIME t (R176) -/
  | archiveSeekTime (tag : Byte) (t : BitVec 32)
  /-- ARCHIVE_READ FORWARD (R177): the count -/
  | archiveReadForward (tag : Byte) (count : Nat)
  /-- ARCHIVE_READ BACKWARD (R178): the count -/
  | archiveReadBackward (tag : Byte) (count : Nat)
  /-- ARCHIVE_READ HOLD (R177): the count -/
  | archiveReadHold (tag : Byte) (count : Nat)
  /-- RESULT_READ HEADER (R180) -/
  | resultReadHeader (tag : Byte) (slot : SlotName)
  /-- RESULT_READ VERTICALS (R180): the starting index -/
  | resultReadVerticals (tag : Byte) (slot : SlotName) (start : Nat)
  /-- TAKE_NOTICE (R195) -/
  | takeNotice (tag : Byte)
  /-- SET_IDENTITY (R191): the number, and whether the write and read-back succeed -/
  | setIdentity (tag : Byte) (number : BitVec 16) (writeOk : Bool)
  /-- RESTART (R192) -/
  | restart (tag : Byte)
  /-- FRAME_BYTE_RECEIVED (R181): the byte, and whether an identity write would succeed, should this
  byte complete a SET_IDENTITY frame -/
  | frameByteReceived (byte : Byte) (writeOk : Bool)
deriving DecidableEq, Repr

end Sys2Proof
end

