-- ==== Sys2Proof/Decode.lean ====
section
/-! DEFINITION. The commands that bits and bytes spell. The table of commands gives its rows no bits,
so a table word spells none. The payload of an accepted frame spells a request (R184, R186 and the
list of 12.4), and `encodeRequest` writes it (notes/assumptions/20.md, 21.md and 22.md). -/

namespace Sys2Proof

open Sys2Proof.Machine

/-- The command a table word spells: none, since no row of the table gives bits. -/
def decodeTableWord (_nbits _w : Nat) : Option Instr := none

/-! Numbers of a payload (R186). -/

/-- An unsigned number of two bytes. -/
def nat2 (a b : Byte) : Nat := a.toNat * 256 + b.toNat

/-- An unsigned number of four bytes. -/
def nat4 (a b c d : Byte) : Nat := nat2 a b * 65536 + nat2 c d

/-- A signed number of two bytes, in two's complement. -/
def int2 (a b : Byte) : Int :=
  if nat2 a b < 32768 then nat2 a b else (nat2 a b : Int) - 65536

/-- A signed number of four bytes, in two's complement. -/
def int4 (a b c d : Byte) : Int :=
  if nat4 a b c d < 2147483648 then nat4 a b c d else (nat4 a b c d : Int) - 4294967296

/-- What an accepted frame comes to (R184). -/
inductive Decoded where
  /-- a request for the block that owns it -/
  | command (i : Instr)
  /-- a payload that does not match the request's fields, or a code outside its list -/
  | invalid
  /-- a kind with bit 7 set, or not in the list of 12.4 -/
  | unknown
deriving DecidableEq, Repr

/-! Requests whose payload takes one of several forms. -/

/-- A request with no payload. -/
def decodeBare (i : Instr) : List Byte → Decoded
  | [] => .command i
  | _ => .invalid

/-- SET_CLOCK_SOURCE: CRYSTAL or RC (R8). -/
def decodeClock (tag : Byte) : List Byte → Decoded
  | [s] =>
    match s.toNat with
    | 0 => .command (.setClockSourceCrystal tag)
    | 1 => .command (.setClockSourceRc tag)
    | _ => .invalid
  | _ => .invalid

/-- PUT_SETTING: identifier, presence byte, value (R188, R189; notes/assumptions/23.md). -/
def decodePut (tag : Byte) : List Byte → Decoded
  | [i, j, p, a, b, c, d] =>
    match p.toNat with
    | 0 => .command (.putSetting tag (i ++ j) none)
    | 1 => .command (.putSetting tag (i ++ j) (some (int4 a b c d)))
    | _ => .invalid
  | _ => .invalid

/-- SET_REFERENCE: SHAFT or PRESSURE, and the staff reading (R41, R42). -/
def decodeReference (tag : Byte) : List Byte → Decoded
  | [ch, a, b] =>
    match ch.toNat with
    | 0 => .command (.setReferenceShaft tag (int2 a b))
    | 1 => .command (.setReferencePressure tag (int2 a b))
    | _ => .invalid
  | _ => .invalid

/-- SET_CAPTURE: the line set, then ARM, DISARM or SELECT with its fields (R32). -/
def decodeCapture (tag : Byte) : List Byte → Decoded
  | [l, f] => if f = 1 then .command (.setCaptureDisarm tag l) else .invalid
  | [l, f, x] =>
    match f.toNat with
    | 0 =>
      if x = 0 then .command (.setCaptureArm tag l false)
      else if x = 1 then .command (.setCaptureArm tag l true)
      else .invalid
    | 2 => .command (.setCaptureSelect tag l x)
    | _ => .invalid
  | _ => .invalid

/-- JOG: TRAVEL or REEL, then the target. Its form byte is coded from 0 for each axis: a position 0 and
HOME 1 for TRAVEL, a payout 0 and TOP 1 for REEL (R112, R186; DESIGN CHOICE,
notes/assumptions/20.md). -/
def decodeJog (tag : Byte) : List Byte → Decoded
  | [ax, f] =>
    match ax.toNat, f.toNat with
    | 0, 1 => .command (.jogTravelHome tag)
    | 1, 1 => .command (.jogReelTop tag)
    | _, _ => .invalid
  | [ax, f, a, b, c, d] =>
    match ax.toNat, f.toNat with
    | 0, 0 => .command (.jogTravelPosition tag (int4 a b c d))
    | 1, 0 => .command (.jogReelPayout tag (int4 a b c d))
    | _, _ => .invalid
  | _ => .invalid

/-- PUT_PLAN_HEADER: a counted name, the vertical count, the default method (R115). -/
def decodeHeader (tag : Byte) : List Byte → Decoded
  | [] => .invalid
  | n :: rest =>
    match rest.drop n.toNat with
    | [c, m] => .command (.putPlanHeader tag (rest.take n.toNat) c.toNat m.toNat)
    | _ => .invalid

/-- PUT_VERTICAL: the index, then EDGE or METERED with its fields (R116). -/
def decodeVertical (tag : Byte) : List Byte → Decoded
  | [i, k, a, b, c, d, x, y, z, w] =>
    if k = 0 then
      .command (.putVertical tag i.toNat (.edge (int4 a b c d) (nat2 x y) (nat2 z w)))
    else if k = 1 then
      .command
        (.putVertical tag i.toNat (.metered (int4 a b c d) x.toNat (nat2 y z) w.toNat))
    else .invalid
  | _ => .invalid

/-- ARCHIVE_SEEK: OLDEST, NEWEST, SEQ or TIME (R176). -/
def decodeSeek (tag : Byte) : List Byte → Decoded
  | [f] =>
    match f.toNat with
    | 0 => .command (.archiveSeekOldest tag)
    | 1 => .command (.archiveSeekNewest tag)
    | _ => .invalid
  | [f, a, b, c, d] =>
    match f.toNat with
    | 2 => .command (.archiveSeekSeq tag (a ++ b ++ c ++ d))
    | 3 => .command (.archiveSeekTime tag (a ++ b ++ c ++ d))
    | _ => .invalid
  | _ => .invalid

/-- ARCHIVE_READ: the count, then FORWARD, BACKWARD or HOLD (R177). -/
def decodeRead (tag : Byte) : List Byte → Decoded
  | [n, f] =>
    match f.toNat with
    | 0 => .command (.archiveReadForward tag n.toNat)
    | 1 => .command (.archiveReadBackward tag n.toNat)
    | 2 => .command (.archiveReadHold tag n.toNat)
    | _ => .invalid
  | _ => .invalid

/-- The part of RESULT_READ: HEADER, or VERTICALS with a starting index (R180). -/
def decodePart (tag : Byte) (slot : SlotName) : List Byte → Decoded
  | [p] => if p = 0 then .command (.resultReadHeader tag slot) else .invalid
  | [p, i] => if p = 1 then .command (.resultReadVerticals tag slot i.toNat) else .invalid
  | _ => .invalid

/-- RESULT_READ: the slot, 1 to 8 or NEWEST, then the part (R180). -/
def decodeResult (tag : Byte) : List Byte → Decoded
  | [] => .invalid
  | f :: rest =>
    match f.toNat, rest with
    | 0, n :: part => decodePart tag (.number n.toNat) part
    | 1, part => decodePart tag .newest part
    | _, _ => .invalid

/-! The list of requests (12.4). -/

/-- What an accepted frame comes to. A SET_IDENTITY takes from outside whether its flash write
succeeds (R191). -/
def decodeRequest (kind tag : Byte) (p : List Byte) (writeOk : Bool) : Decoded :=
  match kind.toNat with
  | 0x01 => decodeBare (.status tag) p
  | 0x02 => decodeBare (.getStage tag) p
  | 0x10 => decodeBare (.getTime tag) p
  | 0x11 =>
    match p with
    | [a, b, c, d] => .command (.setTime tag (a ++ b ++ c ++ d))
    | _ => .invalid
  | 0x12 => decodeClock tag p
  | 0x20 =>
    match p with
    | [a, b] => .command (.getSetting tag (a ++ b))
    | _ => .invalid
  | 0x21 => decodePut tag p
  | 0x22 => decodeBare (.storeSettings tag) p
  | 0x28 => decodeReference tag p
  | 0x30 =>
    match p with
    | [i, a, b, c, d, e, f] =>
      .command (.putRatingRow tag i.toNat (int2 a b) (nat4 c d e f))
    | _ => .invalid
  | 0x31 => decodeBare (.clearRatingStaging tag) p
  | 0x32 =>
    match p with
    | [t] => .command (.getRating tag t.toNat)
    | _ => .invalid
  | 0x33 => decodeBare (.commitRating tag) p
  | 0x38 =>
    match p with
    | [l] => .command (.ackWarning tag l.toNat)
    | _ => .invalid
  | 0x40 => decodeCapture tag p
  | 0x41 => decodeBare (.readLines tag) p
  | 0x48 => decodeJog tag p
  | 0x49 => decodeBare (.stop tag) p
  | 0x50 => decodeHeader tag p
  | 0x51 => decodeVertical tag p
  | 0x52 => decodeBare (.validatePlan tag) p
  | 0x53 =>
    match p with
    | [i] => .command (.getPlan tag i.toNat)
    | _ => .invalid
  | 0x54 =>
    match p with
    | [n] => .command (.storePlan tag n.toNat)
    | _ => .invalid
  | 0x55 =>
    match p with
    | [n] => .command (.loadPlan tag n.toNat)
    | _ => .invalid
  | 0x60 => decodeBare (.startRun tag) p
  | 0x61 => decodeBare (.holdRun tag) p
  | 0x62 => decodeBare (.resumeRun tag) p
  | 0x63 => decodeBare (.abortRun tag) p
  | 0x70 => decodeSeek tag p
  | 0x71 => decodeRead tag p
  | 0x72 => decodeResult tag p
  | 0x78 => decodeBare (.takeNotice tag) p
  | 0x7E =>
    match p with
    | [a, b] => .command (.setIdentity tag (a ++ b) writeOk)
    | _ => .invalid
  | 0x7F => decodeBare (.restart tag) p
  | _ => .unknown

/-! The encoder. -/

/-- The bytes of a PUT_VERTICAL entry (R116). -/
def encodeEntry : VertForm → List Byte
  | .edge x d c => u8 0 ++ i32 x ++ i16 d ++ i16 c
  | .metered x m t r => u8 1 ++ i32 x ++ u8 m ++ i16 t ++ u8 r.toNat

/-- The bytes of a RESULT_READ slot (R180). -/
def encodeSlot : SlotName → List Byte
  | .number n => u8 0 ++ u8 n
  | .newest => u8 1

/-- The kind, tag and payload of a request; none for a command that is no request. -/
def encodeRequest : Instr → Option (Byte × Byte × List Byte)
  | .status tag => some (0x01, tag, [])
  | .getStage tag => some (0x02, tag, [])
  | .getTime tag => some (0x10, tag, [])
  | .setTime tag v => some (0x11, tag, u32 v.toNat)
  | .setClockSourceCrystal tag => some (0x12, tag, u8 0)
  | .setClockSourceRc tag => some (0x12, tag, u8 1)
  | .getSetting tag id => some (0x20, tag, u16 id.toNat)
  | .putSetting tag id v => some (0x21, tag, u16 id.toNat ++ optI32 v)
  | .storeSettings tag => some (0x22, tag, [])
  | .setReferenceShaft tag x => some (0x28, tag, u8 0 ++ i16 x)
  | .setReferencePressure tag x => some (0x28, tag, u8 1 ++ i16 x)
  | .putRatingRow tag i h q => some (0x30, tag, u8 i ++ i16 h ++ i32 q)
  | .clearRatingStaging tag => some (0x31, tag, [])
  | .getRating tag t => some (0x32, tag, u8 t)
  | .commitRating tag => some (0x33, tag, [])
  | .ackWarning tag l => some (0x38, tag, u8 l)
  | .setCaptureArm tag l n => some (0x40, tag, [l] ++ u8 0 ++ yesNo n)
  | .setCaptureDisarm tag l => some (0x40, tag, [l] ++ u8 1)
  | .setCaptureSelect tag l p => some (0x40, tag, [l] ++ u8 2 ++ [p])
  | .readLines tag => some (0x41, tag, [])
  | .jogTravelPosition tag x => some (0x48, tag, u8 0 ++ u8 0 ++ i32 x)
  | .jogTravelHome tag => some (0x48, tag, u8 0 ++ u8 1)
  | .jogReelPayout tag x => some (0x48, tag, u8 1 ++ u8 0 ++ i32 x)
  | .jogReelTop tag => some (0x48, tag, u8 1 ++ u8 1)
  | .stop tag => some (0x49, tag, [])
  | .putPlanHeader tag n c m => some (0x50, tag, name n ++ u8 c ++ u8 m)
  | .putVertical tag i e => some (0x51, tag, u8 i ++ encodeEntry e)
  | .validatePlan tag => some (0x52, tag, [])
  | .getPlan tag i => some (0x53, tag, u8 i)
  | .storePlan tag n => some (0x54, tag, u8 n)
  | .loadPlan tag n => some (0x55, tag, u8 n)
  | .startRun tag => some (0x60, tag, [])
  | .holdRun tag => some (0x61, tag, [])
  | .resumeRun tag => some (0x62, tag, [])
  | .abortRun tag => some (0x63, tag, [])
  | .archiveSeekOldest tag => some (0x70, tag, u8 0)
  | .archiveSeekNewest tag => some (0x70, tag, u8 1)
  | .archiveSeekSeq tag n => some (0x70, tag, u8 2 ++ u32 n.toNat)
  | .archiveSeekTime tag t => some (0x70, tag, u8 3 ++ u32 t.toNat)
  | .archiveReadForward tag n => some (0x71, tag, u8 n ++ u8 0)
  | .archiveReadBackward tag n => some (0x71, tag, u8 n ++ u8 1)
  | .archiveReadHold tag n => some (0x71, tag, u8 n ++ u8 2)
  | .resultReadHeader tag s => some (0x72, tag, encodeSlot s ++ u8 0)
  | .resultReadVerticals tag s i => some (0x72, tag, encodeSlot s ++ u8 1 ++ u8 i)
  | .takeNotice tag => some (0x78, tag, [])
  | .setIdentity tag n _ => some (0x7E, tag, u16 n.toNat)
  | .restart tag => some (0x7F, tag, [])
  | .coldReset => none
  | .warmSupplyReturn => none
  | .resetInputPulse => none
  | .powerGoodLoss => none
  | .secondEvent => none
  | .windowClose _ => none
  | .multiplierLock => none
  | .gridInstant => none
  | .pressureEdge _ => none
  | .pressureComplete _ => none
  | .pressureTimeout => none
  | .quadratureTransition _ _ _ => none
  | .floatIndexEdge => none
  | .rotorEdge _ => none
  | .contactRawChange _ _ _ => none
  | .debounceExpiry _ => none
  | .driveStall => none
  | .settleEnd => none
  | .exposureStart => none
  | .exposureExpiry => none
  | .holdLimitExpiry => none
  | .cadenceSlot => none
  | .ratingCommitComplete _ => none
  | .settingsStoreComplete _ => none
  | .planStoreComplete _ => none
  | .planLoadComplete _ => none
  | .frameInterbyteTimeout => none
  | .frameLengthInvalid => none
  | .frameByteFramingError => none
  | .frameCrcMismatch => none
  | .replySent => none
  | .unknownRequest _ _ => none
  | .frameByteReceived _ _ => none

/-- Whether a kind is in the list of 12.4; a kind with bit 7 set is not (R184). -/
def listedKind (kind : Byte) : Bool :=
  decide (decodeRequest kind 0 [] false ≠ .unknown)

end Sys2Proof
end

