-- ==== Sys2Proof/Machine/SettingTable.lean ====
section
/-! DEFINITION. The 99 settings: identifiers (R188), ranges, lists and defaults (R3, and the tables of
settings of chapters 2, 3, 4, 6, 7, 8, 9 and 10), and a copy of their values as plain data. -/

namespace Sys2Proof.Machine

/-- A setting, in the order of the list of R188. -/
inductive SettingId where
  | floatMultiplier | travelMultiplier | reelMultiplier | floatDirection | travelDirection
  | reelDirection | floatIndexMode | slipTolerance | rotorSpacing | pressureCycles
  | debounceSurface | debounceBed | debounceReelTop | debounceLimitNear | debounceLimitFar
  | debounceDriveFault | debounceDoor | debounceSpare | sirenPolarity | beaconPolarity
  | floatCircumference | floatLines | pressureF0 | pressureGaugeFactor | pressureFMin
  | pressureFMax | pressureOffset | disagreeTolerance | stagePrimary
  | baseInterval | stormDivisor | riseWindow
  | watchStageOn | watchStageHyst | watchRiseOn | watchRiseHyst | watchFlowOn | watchFlowHyst
  | watchNOn | watchNOff | warningStageOn | warningStageHyst | warningRiseOn | warningRiseHyst
  | warningFlowOn | warningFlowHyst | warningNOn | warningNOff | severeStageOn | severeStageHyst
  | severeRiseOn | severeRiseHyst | severeFlowOn | severeFlowHyst | severeNOn | severeNOff
  | stormLevel | lockoutLevel | sirenLevel | beaconNormal | beaconWatch | beaconWarning
  | beaconSevere | sirenWatch | sirenWarning | sirenSevere
  | travelCircumference | travelLines | reelCircumference | reelLines | homeX | travelSlowZone
  | reelSlowZone | settleTime | stallTime
  | positionTolerance
  | maxPayout | surfaceElectrodeHeight | meterHeight | threeMin | twoMin | oneMin | surfaceDepth
  | holdLimit
  | meterPulses | meterSegments | meterA1 | meterA2 | meterA3 | meterB1 | meterB2 | meterB3
  | meterBreak1 | meterBreak2 | meterStartSpeed | spreadLimit | surfaceCoef | maxInterp
  | unsteadyLimit
deriving DecidableEq, Repr

/-- The values a setting takes (R188, R189). -/
inductive SettingKind where
  /-- a number, clamped into its range -/
  | num (lo hi : Int)
  /-- a number from a list of numbers: a multiplier, or pressure_cycles -/
  | oneOf (values : List Int)
  /-- a choice, by its code from 0 (R186) -/
  | choice (count : Nat)
  /-- a warning threshold: a number, clamped, or absent -/
  | threshold (lo hi : Int)
  /-- a beacon or siren pattern: a set of 16 slots, bit n for slot n -/
  | pattern
deriving DecidableEq, Repr

/-- The values each setting takes (R3). -/
def SettingId.kind : SettingId → SettingKind
  | .floatMultiplier | .travelMultiplier | .reelMultiplier => .oneOf [1, 2, 4]
  | .floatDirection | .travelDirection | .reelDirection | .sirenPolarity | .beaconPolarity
  | .stagePrimary => .choice 2
  | .floatIndexMode => .choice 3
  | .slipTolerance => .num 1 200
  | .rotorSpacing => .num 1 50
  | .pressureCycles => .oneOf [256, 512, 1024, 2048, 4096]
  | .debounceSurface | .debounceBed | .debounceReelTop | .debounceLimitNear
  | .debounceLimitFar | .debounceDriveFault | .debounceDoor | .debounceSpare => .num 0 50
  | .floatCircumference | .reelCircumference => .num 100000 1000000
  | .floatLines | .travelLines | .reelLines | .oneMin => .num 50 5000
  | .pressureF0 | .pressureFMin | .pressureFMax => .num 10000 1000000
  | .pressureGaugeFactor => .num (-200000) 200000
  | .pressureOffset => .num (-99999999) 99999999
  | .disagreeTolerance => .num 1 1000
  | .baseInterval => .num 60 3600
  | .stormDivisor => .num 1 12
  | .riseWindow => .num 300 7200
  | .watchStageOn | .warningStageOn | .severeStageOn => .threshold (-2000) 32000
  | .watchStageHyst | .warningStageHyst | .severeStageHyst | .travelSlowZone | .settleTime
  | .unsteadyLimit => .num 0 5000
  | .watchRiseOn | .warningRiseOn | .severeRiseOn => .threshold 1 99999
  | .watchRiseHyst | .warningRiseHyst | .severeRiseHyst => .num 0 99999
  | .watchFlowOn | .warningFlowOn | .severeFlowOn => .threshold 0 50000000
  | .watchFlowHyst | .warningFlowHyst | .severeFlowHyst => .num 0 50000000
  | .watchNOn | .warningNOn | .severeNOn | .meterPulses => .num 1 10
  | .watchNOff | .warningNOff | .severeNOff => .num 1 20
  | .stormLevel | .lockoutLevel | .sirenLevel => .choice 4
  | .beaconNormal | .beaconWatch | .beaconWarning | .beaconSevere | .sirenWatch
  | .sirenWarning | .sirenSevere => .pattern
  | .travelCircumference => .num 100000 2000000
  | .homeX => .num (-100000) 100000
  | .reelSlowZone | .surfaceDepth => .num 0 2000
  | .stallTime => .num 200 10000
  | .positionTolerance => .num 5 1000
  | .maxPayout => .num 500 100000
  | .surfaceElectrodeHeight => .num 0 500
  | .meterHeight | .surfaceCoef => .num 0 1000
  | .threeMin => .num 50 20000
  | .twoMin => .num 50 10000
  | .holdLimit => .num 60 14400
  | .meterSegments => .num 1 3
  | .meterA1 | .meterA2 | .meterA3 => .num 50000 2000000
  | .meterB1 | .meterB2 | .meterB3 => .num (-50000) 50000
  | .meterBreak1 | .meterBreak2 | .meterStartSpeed => .num 0 1000000
  | .spreadLimit => .num 1 100
  | .maxInterp => .num 0 32

/-- The default of each setting (R3). -/
def SettingId.default : SettingId → Option Int
  | .floatMultiplier | .travelMultiplier | .reelMultiplier => some 4
  | .floatDirection | .travelDirection | .reelDirection | .sirenPolarity | .beaconPolarity
  | .pressureOffset | .stagePrimary | .stormLevel | .beaconNormal | .homeX | .meterStartSpeed => some 0
  | .floatIndexMode | .lockoutLevel | .sirenLevel | .meterPulses | .meterSegments => some 1
  | .slipTolerance => some 8
  | .rotorSpacing => some 5
  | .pressureCycles => some 1024
  | .debounceSurface | .debounceBed | .debounceReelTop | .debounceLimitNear
  | .debounceLimitFar | .debounceDriveFault | .debounceDoor | .debounceSpare | .spreadLimit => some 10
  | .floatCircumference => some 375000
  | .floatLines => some 250
  | .pressureF0 => some 280000
  | .pressureGaugeFactor => some 1250
  | .pressureFMin => some 140000
  | .pressureFMax => some 350000
  | .disagreeTolerance => some 30
  | .baseInterval | .riseWindow => some 900
  | .stormDivisor | .watchNOff | .warningNOff | .severeNOff => some 3
  | .watchStageOn | .watchRiseOn | .watchFlowOn | .warningStageOn | .warningRiseOn
  | .warningFlowOn | .severeStageOn | .severeRiseOn | .severeFlowOn => none
  | .watchStageHyst | .warningStageHyst | .severeStageHyst | .positionTolerance
  | .unsteadyLimit => some 50
  | .watchRiseHyst | .watchFlowHyst | .warningRiseHyst | .warningFlowHyst | .severeRiseHyst
  | .severeFlowHyst | .reelSlowZone | .surfaceElectrodeHeight | .surfaceDepth => some 100
  | .watchNOn | .warningNOn | .severeNOn | .maxInterp => some 2
  | .beaconWatch => some 0x0001
  | .beaconWarning => some 0x0303
  | .beaconSevere => some 0x00FF
  | .sirenWatch => some 0x0003
  | .sirenWarning => some 0x0F0F
  | .sirenSevere => some 0xFFFF
  | .travelCircumference => some 500000
  | .travelLines | .settleTime => some 500
  | .reelCircumference => some 300000
  | .reelLines => some 200
  | .travelSlowZone | .oneMin => some 300
  | .stallTime | .meterBreak2 => some 2000
  | .maxPayout => some 20000
  | .meterHeight => some 150
  | .threeMin => some 1500
  | .twoMin => some 750
  | .holdLimit => some 3600
  | .meterA1 | .meterA2 | .meterA3 => some 250000
  | .meterB1 | .meterB2 | .meterB3 => some 10000
  | .meterBreak1 => some 1000
  | .surfaceCoef => some 850

/-- The settings of chapter 2, in order from low byte 0 (R188). -/
def settingsOfChapter2 : List SettingId :=
  [.floatMultiplier, .travelMultiplier, .reelMultiplier, .floatDirection, .travelDirection,
   .reelDirection, .floatIndexMode, .slipTolerance, .rotorSpacing, .pressureCycles,
   .debounceSurface, .debounceBed, .debounceReelTop, .debounceLimitNear, .debounceLimitFar,
   .debounceDriveFault, .debounceDoor, .debounceSpare, .sirenPolarity, .beaconPolarity]

/-- The settings of chapter 3, in order from low byte 0 (R188). -/
def settingsOfChapter3 : List SettingId :=
  [.floatCircumference, .floatLines, .pressureF0, .pressureGaugeFactor, .pressureFMin,
   .pressureFMax, .pressureOffset, .disagreeTolerance, .stagePrimary]

/-- The settings of chapter 4, in order from low byte 0 (R188). -/
def settingsOfChapter4 : List SettingId :=
  [.baseInterval, .stormDivisor, .riseWindow]

/-- The settings of chapter 6, in order from low byte 0 (R188). -/
def settingsOfChapter6 : List SettingId :=
  [.watchStageOn, .watchStageHyst, .watchRiseOn, .watchRiseHyst, .watchFlowOn, .watchFlowHyst,
   .watchNOn, .watchNOff, .warningStageOn, .warningStageHyst, .warningRiseOn,
   .warningRiseHyst, .warningFlowOn, .warningFlowHyst, .warningNOn, .warningNOff,
   .severeStageOn, .severeStageHyst, .severeRiseOn, .severeRiseHyst, .severeFlowOn,
   .severeFlowHyst, .severeNOn, .severeNOff, .stormLevel, .lockoutLevel, .sirenLevel,
   .beaconNormal, .beaconWatch, .beaconWarning, .beaconSevere, .sirenWatch, .sirenWarning,
   .sirenSevere]

/-- The settings of chapter 7, in order from low byte 0 (R188). -/
def settingsOfChapter7 : List SettingId :=
  [.travelCircumference, .travelLines, .reelCircumference, .reelLines, .homeX,
   .travelSlowZone, .reelSlowZone, .settleTime, .stallTime]

/-- The settings of chapter 8, in order from low byte 0 (R188). -/
def settingsOfChapter8 : List SettingId :=
  [.positionTolerance]

/-- The settings of chapter 9, in order from low byte 0 (R188). -/
def settingsOfChapter9 : List SettingId :=
  [.maxPayout, .surfaceElectrodeHeight, .meterHeight, .threeMin, .twoMin, .oneMin,
   .surfaceDepth, .holdLimit]

/-- The settings of chapter 10, in order from low byte 0 (R188). -/
def settingsOfChapter10 : List SettingId :=
  [.meterPulses, .meterSegments, .meterA1, .meterA2, .meterA3, .meterB1, .meterB2, .meterB3,
   .meterBreak1, .meterBreak2, .meterStartSpeed, .spreadLimit, .surfaceCoef, .maxInterp,
   .unsteadyLimit]

/-- All settings, in the order of `SettingId`. -/
def allSettings : List SettingId :=
  settingsOfChapter2 ++ settingsOfChapter3 ++ settingsOfChapter4 ++ settingsOfChapter6 ++
  settingsOfChapter7 ++ settingsOfChapter8 ++ settingsOfChapter9 ++ settingsOfChapter10

/-- The setting a two-byte identifier names: the chapter in the high byte, the place in the low byte
(R188); none for an identifier not in the list. -/
def settingOfCode (id : BitVec 16) : Option SettingId :=
  let place := id.toNat % 256
  match id.toNat / 256 with
  | 2 => settingsOfChapter2[place]?
  | 3 => settingsOfChapter3[place]?
  | 4 => settingsOfChapter4[place]?
  | 6 => settingsOfChapter6[place]?
  | 7 => settingsOfChapter7[place]?
  | 8 => settingsOfChapter8[place]?
  | 9 => settingsOfChapter9[place]?
  | 10 => settingsOfChapter10[place]?
  | _ => none

/-- The place of a setting among all. -/
def SettingId.place (i : SettingId) : Nat := i.ctorIdx

/-- A copy of all the settings, in the order of `allSettings`. -/
structure Settings where
  vals : List (Option Int)
deriving DecidableEq, Repr

/-- The value of a setting, absent only for a threshold. -/
def Settings.get (t : Settings) (i : SettingId) : Option Int := t.vals.getD i.place none

/-- The copy with one setting written. -/
def Settings.put (t : Settings) (i : SettingId) (v : Option Int) : Settings :=
  { vals := t.vals.set i.place v }

/-- The value of a setting that is never absent. -/
def Settings.num (t : Settings) (i : SettingId) : Int := (t.get i).getD 0

/-- The value of a setting that is never negative. -/
def Settings.nat (t : Settings) (i : SettingId) : Nat := (t.num i).toNat

/-- All settings at their defaults (R3, R190). -/
def Settings.defaults : Settings := { vals := allSettings.map SettingId.default }

/-- Whether a value lies in a setting's range or list (R189, R190). -/
def SettingKind.legal (k : SettingKind) (v : Option Int) : Bool :=
  match k, v with
  | .num lo hi, some x => decide (lo ≤ x ∧ x ≤ hi)
  | .oneOf l, some x => decide (x ∈ l)
  | .choice n, some x => decide (0 ≤ x ∧ x < n)
  | .threshold lo hi, some x => decide (lo ≤ x ∧ x ≤ hi)
  | .threshold _ _, none => true
  | .pattern, some x => decide (0 ≤ x ∧ x < 65536)
  | _, none => false

end Sys2Proof.Machine
end

