-- ==== Sys2Proof/Machine/Types.lean ====
section
/-! DEFINITION. The plain data of the part's blocks, chapter by chapter. -/

namespace Sys2Proof.Machine

/-! Chapter 1: timebase. -/

/-- The time sources (R4). -/
inductive Source where
  | crystal | rc
deriving DecidableEq, Repr

/-- The multiplier's lock state; `since` is the tick at which the relock interval began (R5). -/
inductive Lock where
  | unlocked (since : Nat)
  | locked
deriving DecidableEq, Repr

/-- The time quality (R15). -/
inductive TimeQuality where
  | unset | crystal | rc
deriving DecidableEq, Repr

/-- A pending switch to CRYSTAL: good-window count and closed-window number (R9). -/
structure PendingSwitch where
  good : Nat
  closed : Nat
deriving DecidableEq, Repr

/-- The Timebase Unit, but for the multiplier, which is in the main domain (R18, R19). -/
structure Timebase where
  source : Source
  pending : Option PendingSwitch
  bad : Nat
  /-- crystal counts of the two most recent windows, the latest first (R6) -/
  recent : List Nat
  clockFail : Bool
  subSecond : Nat
  mono : Nat
  calendar : Option Nat
deriving DecidableEq, Repr

/-- The cause of a CLOCK notice (R17). -/
inductive ClockCause where
  | fail | switched | failed
deriving DecidableEq, Repr

/-! Chapter 2: count inputs and field lines. -/

/-- A quadrature channel (R20 to R23). -/
structure Quad where
  a : Bool
  b : Bool
  count : Int
  tally : Nat
  saturated : Bool
  /-- the remembered direction: empty, positive (`true`) or negative -/
  dir : Option Bool
  mult : Nat
  reversed : Bool
deriving DecidableEq, Repr

/-- The FLOAT index phase and the slip flag (R24, R25). -/
structure FloatIndex where
  phase : Option Nat
  slip : Bool
deriving DecidableEq, Repr

/-- The ROTOR channel (R26); `spacing` is in milliseconds, `last` a tick time. -/
structure Rotor where
  counting : Bool
  count : Nat
  saturated : Bool
  last : Option Nat
  spacing : Nat
deriving DecidableEq, Repr

/-- The PRESSURE channel (R27); `start` is the tick at which the timeout was started. -/
inductive Pressure where
  | idle
  | waiting (n start : Nat)
  | measuring (n a b start : Nat)
deriving DecidableEq, Repr

/-- The cause of an absent pressure value, or of a failed measurement (R28, R38). -/
inductive PressCause where
  | range | timeout | clock
deriving DecidableEq, Repr

/-- The outcome of a measurement handed to the Sampling Unit (R27, R28). -/
inductive Measurement where
  | pair (n b : Nat)
  | failed (cause : PressCause)
deriving DecidableEq, Repr

/-- A contact input with its debounce and capture items (R29, 2.7). -/
structure ContactLine where
  raw : Bool
  level : Bool
  /-- the tick of the raw change that began the debounce interval in progress -/
  since : Option Nat
  /-- polarity FALLING rather than RISING -/
  falling : Bool
  armed : Bool
  captured : Bool
  notice : Bool
deriving DecidableEq, Repr

/-- The eight contact inputs (2.6). -/
structure Contacts where
  surface : ContactLine
  bed : ContactLine
  reelTop : ContactLine
  limitNear : ContactLine
  limitFar : ContactLine
  driveFault : ContactLine
  door : ContactLine
  spare : ContactLine
deriving DecidableEq, Repr

/-- The eight output lines as commanded: asserted or not (R34). -/
structure Outputs where
  travelFwd : Bool
  travelRev : Bool
  reelDown : Bool
  reelUp : Bool
  speedSlow : Bool
  siren : Bool
  beacon : Bool
  attn : Bool
deriving DecidableEq, Repr

/-! Chapters 3 and 4: stage and sampling. -/

/-- The quality of a reported stage (R52). -/
inductive StageQuality where
  | good | differs | substituted | held | missing
deriving DecidableEq, Repr

/-- The shaft channel's health, with the causes of a fault (R45, R47). -/
inductive ShaftState where
  | unreferenced
  | healthy
  | faulted (phaseErrors saturation : Bool)
deriving DecidableEq, Repr

/-- The pressure channel's health, with the cause of a fault (R46, R48). -/
inductive PressState where
  | healthy
  | faulted (cause : PressCause)
deriving DecidableEq, Repr

/-- The reported stage (R53). -/
structure Reported where
  value : Option Int
  quality : StageQuality
  mono : Option Nat
deriving DecidableEq, Repr

/-- The most recent completed measurement (R37). -/
structure MeasRecord where
  freq : Int
  n : Nat
  mono : Nat
deriving DecidableEq, Repr

/-- The Stage Unit (R55). -/
structure StageUnit where
  /-- O_s -/
  shaftOffset : Int
  /-- O_p -/
  pressOffset : Int
  shaft : ShaftState
  press : PressState
  pressCount : Nat
  disagree : Bool
  disagreeCount : Nat
  linesCopy : Int
  circCopy : Int
  reported : Reported
  lastValue : Option Int
  meas : Option MeasRecord
deriving DecidableEq, Repr

/-- A shaft capture (R43); `setAside` when a SET_REFERENCE SHAFT came after it (R44). -/
structure Capture where
  count : Int
  tally : Nat
  saturated : Bool
  slip : Bool
  setAside : Bool
deriving DecidableEq, Repr

/-- A sample in formation (R62). -/
structure Forming where
  mono : Nat
  calendar : Option Nat
  period : Nat
  capture : Capture
deriving DecidableEq, Repr

/-- The main-domain part of the Sampling Unit (R61, R67). -/
structure Sampling where
  forming : Option Forming
  period : Nat
  next : Option Nat
  rate : Option Int
deriving DecidableEq, Repr

/-- What the Stage Unit hands the Sampling Unit for a sample (R53). -/
structure StageItems where
  value : Option Int
  quality : StageQuality
  shaft : Option Int
  press : Option Int
  /-- why the pressure stage is absent -/
  pressAbsent : Option PressCause
  /-- shaft and pressure state after step 3 -/
  shaftState : ShaftState
  pressState : PressState
  slip : Bool
  range : Bool
  differs : Bool
deriving DecidableEq, Repr

/-! Chapter 5: rating. -/

/-- A row of a rating table: stage in mm, discharge in L/s (5.1). -/
structure Row where
  stage : Int
  flow : Int
deriving DecidableEq, Repr

/-- The range flag of a lookup (R70). -/
inductive RangeFlag where
  | none | below | above
deriving DecidableEq, Repr

/-- The answer of a lookup (R70). -/
structure Lookup where
  flow : Option Int
  flag : RangeFlag
  generation : Option Nat
deriving DecidableEq, Repr

/-- The stored copy of the rating in flash: the rows of a commit, their generation, and the check value
programmed with them (5.1, R76). -/
structure StoredRating where
  rows : List Row
  generation : Nat
  check : Nat
deriving DecidableEq, Repr

/-- The Rating Unit (5.1); the stored copy is absent while INVALID. -/
structure RatingUnit where
  active : List Row
  generation : Nat
  stored : Option StoredRating
  staging : List Row
  image : Option (List Row)
deriving DecidableEq, Repr

/-- The fault of a refused commit (R75). -/
inductive CommitFault where
  | tooFew
  | stageOrder (row : Nat)
  | dischargeOrder (row : Nat)
deriving DecidableEq, Repr

/-! Chapter 6: warning. -/

/-- The warning levels (chapter 6). -/
inductive Level where
  | normal | watch | warning | severe
deriving DecidableEq, Repr

/-- The state of one level above NORMAL (R82). -/
structure LevelCell where
  latched : Bool
  entry : Nat
  exit : Nat
deriving DecidableEq, Repr

/-- The Warning Unit; the current level, storm and lockout follow (R82). `slotAt` is the tick at
which the cadence slot started. -/
structure WarningUnit where
  watch : LevelCell
  warning : LevelCell
  severe : LevelCell
  ack : Level
  slot : Nat
  slotAt : Nat
deriving DecidableEq, Repr

/-- The kinds of condition a level met (R80, R88). -/
structure Kinds where
  stage : Bool
  rise : Bool
  flow : Bool
deriving DecidableEq, Repr

/-- The cause of a LEVEL notice (R88). -/
inductive LevelCause where
  | evaluation | setting
deriving DecidableEq, Repr

/-! Chapter 7: cableway drive. -/

/-- The drive's axes (R99). -/
inductive Axis where
  | travel | reel
deriving DecidableEq, Repr

/-- Who asked for a move (R102). -/
inductive Requester where
  | run | host
deriving DecidableEq, Repr

/-- The kind of a move with the items of its kind (R103). -/
inductive MoveKind where
  | toPosition (target : Int)
  | toContact (contact : Contact) (limit : Int)
  | home
deriving DecidableEq, Repr

/-- The speed class of a move (R106). -/
inductive SpeedClass where
  | auto | slow
deriving DecidableEq, Repr

/-- A move request (R103). -/
structure MoveRequest where
  requester : Requester
  axis : Axis
  kind : MoveKind
  speed : SpeedClass
deriving DecidableEq, Repr

/-- Why a move was stopped (R101, R111). -/
inductive StopReason where
  | host | setting
deriving DecidableEq, Repr

/-- The outcome of a move (R107, R108, R111). -/
inductive MoveOutcome where
  | reached | contact | payoutLimit
  | stopped (reason : StopReason)
deriving DecidableEq, Repr

/-- The cause of a drive fault (R109). -/
inductive DriveFault where
  | stall | reverse | drive | limit | interlock
deriving DecidableEq, Repr

/-- The cause with which an axis check unreferenced its axis (R101). -/
structure CheckCause where
  saturation : Bool
  phaseErrors : Bool
deriving DecidableEq, Repr

/-- The move record (R102). `forward` is forward or down; `slowPhase` is speed phase SLOW; the two
times are ticks. -/
structure Move where
  requester : Requester
  axis : Axis
  kind : MoveKind
  speed : SpeedClass
  forward : Bool
  slowPhase : Bool
  peak : Int
  countAt : Nat
  phaseAt : Nat
  contact : Option Contact
  stopPos : Option Int
  outcome : Option MoveOutcome
deriving DecidableEq, Repr

/-- The drive states (R102); SETTLING carries the tick of the stop. -/
inductive DriveState where
  | idle
  | moving (m : Move)
  | settling (m : Move) (since : Nat)
  | faulted
deriving DecidableEq, Repr

/-- The name of a drive state (R102). -/
inductive DriveMode where
  | idle | moving | settling | faulted
deriving DecidableEq, Repr

/-- The fault record (R102); axis and kind are absent for a fault taken while IDLE. -/
structure FaultRecord where
  cause : DriveFault
  axis : Option Axis
  kind : Option MoveKind
  position : Option Int
  mono : Nat
deriving DecidableEq, Repr

/-- The Cableway Drive Unit (R102). -/
structure DriveUnit where
  state : DriveState
  fault : Option FaultRecord
  travelRef : Bool
  reelRef : Bool
deriving DecidableEq, Repr

/-- What the drive hands the requester at the end of a move (R108, R111). -/
structure Completion where
  axis : Axis
  kind : MoveKind
  outcome : MoveOutcome
  contact : Option Contact
  stopPos : Option Int
  finalPos : Option Int
  referenced : Bool
  check : Option CheckCause
deriving DecidableEq, Repr

/-- The answer to a move request (R103, R105). -/
inductive MoveAnswer where
  | invalid | busy | faulted | interlock | state
  | started (clamped : Bool)
  | complete (clamped : Bool) (c : Completion)
deriving DecidableEq, Repr

/-- What a step of the drive has to report, and to whom (R108, R110, R113). -/
inductive DriveReport where
  | none
  | completed (who : Requester) (c : Completion)
  | faulted (who : Option Requester) (cause : DriveFault) (check : Option CheckCause)
deriving DecidableEq, Repr

/-! Chapter 8: plans and the Flash Unit. -/

/-- The method of an entry or of a header (R114). -/
inductive EntryMethod where
  | auto | one | two | three | surface | default
deriving DecidableEq, Repr

/-- A plan header (R114). -/
structure PlanHeader where
  name : List Byte
  count : Nat
  method : EntryMethod
deriving DecidableEq, Repr

/-- A plan entry (R114). -/
inductive PlanEntry where
  | edge (x depth coef : Int)
  | metered (x : Int) (method : EntryMethod) (exposure repeats : Nat)
deriving DecidableEq, Repr

/-- The state of the plan buffer (R117). -/
inductive BufferState where
  | empty | unvalidated | valid
deriving DecidableEq, Repr

/-- A fault of validation (R118). -/
inductive PlanFault where
  | noHeader | missing | kind | order | spacing
deriving DecidableEq, Repr

/-- A plan as stored in a slot or held in an image: its header and entries 1 to n (R122). -/
structure StoredPlan where
  header : PlanHeader
  entries : List PlanEntry
deriving DecidableEq, Repr

/-- The content of a plan slot in flash: a plan and the check value programmed with it (R122, R123). -/
structure PlanSlot where
  plan : StoredPlan
  check : Nat
deriving DecidableEq, Repr

/-- The Plan Store (8.2, 8.5). A slot is absent while EMPTY; the load image is the slot as read. -/
structure PlanStore where
  header : Option PlanHeader
  /-- entries 1 to 32 -/
  entries : List (Option PlanEntry)
  buffer : BufferState
  lastFault : Option (PlanFault × Option Nat)
  /-- slots 1 to 6 -/
  slots : List (Option PlanSlot)
  storeImage : Option StoredPlan
  loadImage : Option PlanSlot
deriving DecidableEq, Repr

/-- The classes of long operation (R120). -/
inductive FlashClass where
  | settings | rating | planStore | planLoad
deriving DecidableEq, Repr

/-- The operation in flight (R120). -/
structure FlashOp where
  cls : FlashClass
  slot : Option Nat
  mono : Nat
deriving DecidableEq, Repr

/-- The outcome of a long operation (R121). -/
inductive FlashOutcome where
  | ok | flashError | superseded | notFound | invalid
deriving DecidableEq, Repr

/-- The stored copy of the settings in flash: the image of a store and the check value programmed with
it (R190). -/
structure StoredSettings where
  settings : Settings
  check : Nat
deriving DecidableEq, Repr

/-- The Flash Unit (R120, R121), with the settings store image (R190). -/
structure FlashUnit where
  op : Option FlashOp
  settingsImage : Option Settings
  lastSettings : Option FlashOutcome
  lastRating : Option FlashOutcome
  lastPlanStore : Option FlashOutcome
  lastPlanLoad : Option FlashOutcome
deriving DecidableEq, Repr

/-! Chapters 9, 10 and 11: runs and results. -/

/-- The run phases (9.3). -/
inductive Phase where
  | idle | starting | travel | sound | setPoint | expose | retract | home | holdRetract | hold
  | abortHome
deriving DecidableEq, Repr

/-- The method a vertical was metered by (R134). -/
inductive Method where
  | one | two | three | surface
deriving DecidableEq, Repr

/-- One kept repeat of a point (R137). -/
structure Repeat where
  count : Nat
  saturated : Bool
deriving DecidableEq, Repr

/-- Why a point failed (R136, R138). -/
inductive PointFailure where
  | clock | placement
deriving DecidableEq, Repr

/-- The flags of a point (R174). -/
structure PointFlags where
  clamped : Bool
  bedStop : Bool
  still : Bool
  fast : Bool
  saturated : Bool
  spread : Bool
deriving DecidableEq, Repr

/-- A point of a vertical (R135, R174); the fraction is absent for SURFACE. -/
structure Point where
  fraction : Option Nat
  depth : Int
  target : Int
  actual : Option Int
  repeats : List Repeat
  velocity : Option Int
  flags : PointFlags
  failure : Option PointFailure
deriving DecidableEq, Repr

/-- Why a vertical is FAILED (R133). -/
inductive VerticalFailure where
  | noSurface | noBed
deriving DecidableEq, Repr

/-- The kind of a vertical record (R174). -/
inductive VertKind where
  | edge | metered
deriving DecidableEq, Repr

/-- A vertical record (R174). -/
structure VertRecord where
  index : Nat
  kind : VertKind
  planX : Int
  actualX : Int
  depth : Option Int
  method : Option Method
  points : List Point
  velocity : Option Int
  shallow : Bool
  failed : Option VerticalFailure
  pointFailed : Bool
  offset : Bool
  interpolated : Bool
deriving DecidableEq, Repr

/-- The status of a result (R173). -/
inductive RunStatus where
  | running | complete | insufficient | aborted
deriving DecidableEq, Repr

/-- Why a result is ABORTED (R173). -/
inductive AbortReason where
  | host | holdLimit | power
deriving DecidableEq, Repr

/-- A time field of a result header (R128, R140). -/
structure RunTime where
  mono : Nat
  calendar : Option Nat
  quality : TimeQuality
deriving DecidableEq, Repr

/-- A stage field of a result header (R128, R140). -/
structure RunStage where
  value : Int
  quality : StageQuality
deriving DecidableEq, Repr

/-- The flags of a result header (R166). -/
structure HeaderFlags where
  poor : Bool
  unsteady : Bool
  order : Bool
  notHomed : Bool
deriving DecidableEq, Repr

/-- A result header (R173). -/
structure ResultHeader where
  runNumber : Nat
  station : Nat
  name : List Byte
  count : Nat
  status : RunStatus
  abortReason : Option AbortReason
  startTime : RunTime
  startStage : RunStage
  endTime : Option RunTime
  endStage : Option RunStage
  meanStage : Option Int
  discharge : Option Int
  area : Option Int
  meanVelocity : Option Int
  ratingFlow : Option Int
  generation : Option Nat
  deviation : Option Int
  interpCount : Option Nat
  flags : HeaderFlags
deriving DecidableEq, Repr

/-- A result: its header and its vertical records in plan order (R174). -/
structure RunResult where
  header : ResultHeader
  verts : List VertRecord
deriving DecidableEq, Repr

/-- The run's own copy of the plan and of the settings (R129). -/
structure Snapshot where
  header : PlanHeader
  /-- entries 1 to n, methods resolved -/
  entries : List PlanEntry
  settings : Settings
deriving DecidableEq, Repr

/-- The current vertical's data before its record is written (R132 to R138). -/
structure Partial where
  actualX : Option Int
  surface : Option Int
  bed : Option Int
  depth : Option Int
  method : Option Method
  points : List Point
  /-- the place of the point being taken -/
  point : Nat
  retry : Nat
  shallow : Bool
  failed : Option VerticalFailure
  pointFailed : Bool
deriving DecidableEq, Repr

/-- The exposure: none, waiting for the lock, or running since a tick (R137). -/
inductive Exposure where
  | none
  | waiting
  | running (start : Nat)
deriving DecidableEq, Repr

/-- The cause of a motion fault (R130). -/
inductive MotionCause where
  | stall | reverse | drive | limit | interlock
  | busy | faulted | state
  | stopped | setting | reference
deriving DecidableEq, Repr

/-- The hold cause set (R141). -/
structure HoldCauses where
  host : Bool
  lockout : Bool
  motion : Bool
deriving DecidableEq, Repr

/-- The Run Sequencer's main-domain state (R149). -/
structure RunUnit where
  phase : Phase
  snap : Option Snapshot
  current : Nat
  causes : HoldCauses
  motionCause : Option MotionCause
  /-- the monotonic seconds of the entry to HOLD (R144) -/
  holdAt : Option Nat
  abortReason : Option AbortReason
  vertical : Partial
  exposure : Exposure
deriving DecidableEq, Repr

/-- The run marker, in the retention domain (R128, R149). -/
structure Marker where
  active : Bool
  slot : Nat
  runNumber : Nat
deriving DecidableEq, Repr

/-- An interval record (R171). -/
structure IntervalRecord where
  seq : Nat
  calendar : Option Nat
  mono : Nat
  timeQuality : TimeQuality
  stage : Option Int
  quality : StageQuality
  shaft : Option Int
  press : Option Int
  flow : Option Int
  generation : Option Nat
  level : Level
  rate : Option Int
  period : Nat
  slip : Bool
  range : Bool
  storm : Bool
  differs : Bool
  below : Bool
  above : Bool
deriving DecidableEq, Repr

/-- The Record Memory (chapter 11): the interval region oldest first, the result slots 1 to 8, the
cursor (absent at END) and the overrun flag. -/
structure RecordMemory where
  recs : List IntervalRecord
  next : Nat
  cursor : Option Nat
  overrun : Bool
  slots : List (Option RunResult)
deriving DecidableEq, Repr

/-! Chapter 12: link and notices. -/

/-- The outcome codes, in the order of their values (R185). -/
inductive ReplyCode where
  | ok | accepted | clamped | busy | invalid | unknown | alreadySet | runActive | lockout | faulted
  | interlock | noStage | noValue | notFound | empty | state
deriving DecidableEq, Repr

/-- The kind and cause of a reset (R192). -/
inductive ResetKind where
  | cold | warmSupply | warmResetInput | warmRestart
deriving DecidableEq, Repr

/-- A LEVEL notice (R88). -/
structure LevelNotice where
  from_ : Level
  to_ : Level
  peak : Level
  cause : LevelCause
  met : Kinds
  stage : Option Int
  quality : Option StageQuality
  rate : Option Int
  flow : Option Int
  ack : Level
  storm : Bool
  lockout : Bool
  mono : Nat
  calendar : Option Nat
deriving DecidableEq, Repr

/-- What a RUN notice reports (R150). -/
inductive RunEvent where
  | phase (from_ to_ : Phase)
  | ended (status : RunStatus) (reason : Option AbortReason) (flags : HeaderFlags)
deriving DecidableEq, Repr

/-- A RUN notice (R150). -/
structure RunNotice where
  event : RunEvent
  runNumber : Nat
  slot : Nat
  current : Option Nat
  causes : HoldCauses
  motionCause : Option MotionCause
  mono : Nat
  calendar : Option Nat
deriving DecidableEq, Repr

/-- A LONG_OP notice (R121). -/
structure LongOpNotice where
  cls : FlashClass
  outcome : FlashOutcome
  slot : Option Nat
  name : Option (List Byte)
  count : Option Nat
  fault : Option PlanFault
  entry : Option Nat
  generation : Option Nat
  rows : Option Nat
  mono : Nat
deriving DecidableEq, Repr

/-- A CLOCK notice (R17). -/
structure ClockNotice where
  cause : ClockCause
  source : Source
  clockFail : Bool
  mono : Nat
  calendar : Option Nat
deriving DecidableEq, Repr

/-- A set of the Stage Unit's items (R54). -/
structure SensorItems where
  shaft : Bool
  press : Bool
  disagree : Bool
deriving DecidableEq, Repr

/-- A SENSOR notice (R54); the causes stand in the states. -/
structure SensorNotice where
  changed : SensorItems
  shaft : ShaftState
  press : PressState
  disagree : Bool
  shaftValue : Option Int
  pressValue : Option Int
  mono : Nat
deriving DecidableEq, Repr

/-- A set of contact inputs (R31). -/
structure LineSet where
  surface : Bool
  bed : Bool
  reelTop : Bool
  limitNear : Bool
  limitFar : Bool
  driveFault : Bool
  door : Bool
  spare : Bool
deriving DecidableEq, Repr

/-- What a MOTION notice reports (R113). -/
inductive MotionEvent where
  | completed (outcome : MoveOutcome)
  | stopped (reason : StopReason)
  | fault (cause : DriveFault)
deriving DecidableEq, Repr

/-- A MOTION notice (R113). -/
structure MotionNotice where
  event : MotionEvent
  axis : Option Axis
  kind : Option MoveKind
  contact : Option Contact
  stopPos : Option Int
  finalPos : Option Int
  travelRef : Bool
  reelRef : Bool
  check : Option CheckCause
  state : DriveMode
  mono : Nat
deriving DecidableEq, Repr

/-- A POWER notice (R192). -/
structure PowerNotice where
  kind : ResetKind
  storedSettings : Bool
  ratingValid : Bool
  identitySet : Bool
  mono : Nat
  calendar : Option Nat
deriving DecidableEq, Repr

/-- An ARCHIVE notice (R179); `cursor` is next at END (R175), the limits are absent while the region is
empty. -/
structure ArchiveNotice where
  renumbered : Bool
  skipped : Nat
  cursor : Nat
  oldest : Option Nat
  newest : Option Nat
  mono : Nat
deriving DecidableEq, Repr

/-- The notices, in the order of their kind codes (R194). -/
inductive Notice where
  | level (n : LevelNotice)
  | run (n : RunNotice)
  | longOp (n : LongOpNotice)
  | clock (n : ClockNotice)
  | sensor (n : SensorNotice)
  | line (n : LineSet)
  | motion (n : MotionNotice)
  | power (n : PowerNotice)
  | archive (n : ArchiveNotice)
deriving DecidableEq, Repr

/-- The nine kinds of notice (R194). -/
inductive NoticeKind where
  | level | run | longOp | clock | sensor | line | motion | power | archive
deriving DecidableEq, Repr

/-- The receiver (R181): HUNT, or RECEIVING with the bytes after the start byte so far and the tick
of the latest byte. -/
inductive Receiver where
  | hunt
  | receiving (bytes : List Byte) (last : Nat)
deriving DecidableEq, Repr

end Sys2Proof.Machine
end

