-- ==== Sys2Proof/Machine/Replies.lean ====
section
/-! DEFINITION. The reply fields of the requests, as the rule that owns each request names them. -/

namespace Sys2Proof.Machine

/-- GET_TIME (R16). -/
structure TimeReply where
  calendar : Option Nat
  mono : Nat
  subSecond : Nat
  source : Source
  pending : Option PendingSwitch
  clockFail : Bool
  locked : Bool
  quality : TimeQuality
deriving DecidableEq, Repr

/-- GET_STAGE (R68). -/
structure StageReply where
  shaftLive : Option Int
  shaft : ShaftState
  pressLive : Option Int
  pressAge : Option Nat
  press : PressState
  disagree : Bool
  reported : Reported
  rate : Option Int
  level : Level
  storm : Bool
  period : Nat
  next : Option Nat
  onCalendar : Bool
  forming : Bool
  history : Nat
deriving DecidableEq, Repr

/-- SET_REFERENCE (R41, R42): the reading as stored, the offsets, the age for PRESSURE, and the state
of the channel named. -/
structure ReferenceReply where
  staff : Int
  previous : Int
  offset : Int
  age : Option Nat
  state : ShaftState ⊕ PressState
deriving DecidableEq, Repr

/-- GET_RATING (R74). -/
structure RatingReply where
  rows : List Row
  generation : Nat
  storedValid : Bool
  inFlight : Bool
deriving DecidableEq, Repr

/-- ACK_WARNING (R95). -/
structure WarningReply where
  current : Level
  ack : Level
  watch : LevelCell
  warning : LevelCell
  severe : LevelCell
  storm : Bool
  lockout : Bool
  sounding : Bool
deriving DecidableEq, Repr

/-- The capture items of one input (2.7). -/
structure CaptureItems where
  falling : Bool
  armed : Bool
  captured : Bool
  notice : Bool
deriving DecidableEq, Repr

/-- GET_PLAN (R119): each entry with its index and method in effect. -/
structure PlanReply where
  buffer : BufferState
  loading : Option Nat
  lastFault : Option (PlanFault × Option Nat)
  header : Option PlanHeader
  entries : List (Nat × Option (PlanEntry × Option EntryMethod))
  next : Option Nat
  /-- name and vertical count of each STORED slot -/
  slots : List (Option (List Byte × Nat))
deriving DecidableEq, Repr

/-- Where the archive stands (R176, R177); the cursor is absent at END. -/
structure ArchivePlace where
  cursor : Option Nat
  oldest : Option Nat
  newest : Option Nat
  next : Nat
deriving DecidableEq, Repr

/-- ARCHIVE_READ (R177). -/
structure ArchiveReply where
  records : List IntervalRecord
  begin_ : Bool
  overrun : Bool
  place : ArchivePlace
deriving DecidableEq, Repr

/-- STATUS (R193). -/
structure StatusReply where
  reset : Option ResetKind
  calendarSet : Bool
  source : Source
  switchPending : Bool
  clockFail : Bool
  locked : Bool
  reportedValue : Option Int
  reportedQuality : StageQuality
  shaft : ShaftState
  press : PressState
  disagree : Bool
  level : Level
  ack : Level
  storm : Bool
  lockout : Bool
  phase : Phase
  runNumber : Nat
  resultSlot : Option Nat
  current : Option Nat
  causes : HoldCauses
  motionCause : Option MotionCause
  drive : DriveMode
  fault : Option (DriveFault × Option Axis × Nat)
  travelRef : Bool
  reelRef : Bool
  flashOp : Option (FlashClass × Option Nat)
  lastSettings : Option FlashOutcome
  lastRating : Option FlashOutcome
  lastPlanStore : Option FlashOutcome
  lastPlanLoad : Option FlashOutcome
  settingsValid : Bool
  generation : Nat
  activeRows : Nat
  ratingValid : Bool
  buffer : BufferState
  loading : Option Nat
  oldest : Option Nat
  newest : Option Nat
  next : Nat
  overrun : Bool
  station : Nat
  notices : List NoticeKind
deriving DecidableEq, Repr

/-- The reply fields, by the rule that owns the request. -/
inductive ReplyBody where
  /-- no reply fields -/
  | nothing
  /-- STATUS (R193) -/
  | status (r : StatusReply)
  /-- GET_STAGE (R68) -/
  | stage (r : StageReply)
  /-- GET_TIME (R16) -/
  | time (r : TimeReply)
  /-- SET_TIME (R14): the calendar before the step -/
  | setTime (previous : Option Nat)
  /-- GET_SETTING (R188): identifier, value in use, default -/
  | setting (id : BitVec 16) (value default : Option Int)
  /-- PUT_SETTING (R189): the value as stored -/
  | storedSetting (value : Option Int)
  /-- SET_REFERENCE (R41, R42) -/
  | reference (r : ReferenceReply)
  /-- PUT_RATING_ROW (R73): the row as stored and the staging row count -/
  | ratingRow (row : Row) (count : Nat)
  /-- CLEAR_RATING_STAGING (R74) -/
  | ratingCount (count : Nat)
  /-- GET_RATING (R74) -/
  | rating (r : RatingReply)
  /-- COMMIT_RATING accepted (R75): row count and the generation success will bring -/
  | commit (rows generation : Nat)
  /-- COMMIT_RATING refused INVALID (R75): the fault, and the row count for TOO_FEW -/
  | commitFault (fault : CommitFault) (rows : Nat)
  /-- a long request refused BUSY (R75, R120): the class in flight -/
  | busyClass (cls : FlashClass)
  /-- ACK_WARNING (R95) -/
  | warning (r : WarningReply)
  /-- SET_CAPTURE (R32) -/
  | captures (items : List CaptureItems)
  /-- READ_LINES (R33) -/
  | lines (levels : List Bool) (items : List CaptureItems) (outs : Outputs)
  /-- JOG of a move that is already complete (R112) -/
  | jog (c : Completion)
  /-- PUT_PLAN_HEADER (R115) -/
  | planHeader (h : PlanHeader) (buffer : BufferState)
  /-- PUT_VERTICAL, the entry with its index (R116; notes/assumptions/37.md) -/
  | planEntry (index : Nat) (e : PlanEntry) (buffer : BufferState)
  /-- VALIDATE_PLAN passed (R118) -/
  | validated (count : Nat)
  /-- VALIDATE_PLAN failed (R118) -/
  | planFault (fault : PlanFault) (entry : Option Nat)
  /-- GET_PLAN (R119) -/
  | plan (r : PlanReply)
  /-- STORE_PLAN refused INVALID with detail BUFFER_NOT_VALID (R122) -/
  | bufferNotValid
  /-- LOAD_PLAN accepted (R124): the superseded slot -/
  | superseded (slot : Option Nat)
  /-- START_RUN (R128) -/
  | runStarted (number slot : Nat)
  /-- HOLD_RUN and RESUME_RUN (R145, R146): phase and hold cause set -/
  | runState (phase : Phase) (causes : HoldCauses)
  /-- ARCHIVE_SEEK (R176) -/
  | seek (place : ArchivePlace) (overrun : Bool)
  /-- ARCHIVE_READ (R177, R187) -/
  | archive (r : ArchiveReply)
  /-- RESULT_READ answered NOT_FOUND (R180): the slot -/
  | resultSlot (slot : SlotName)
  /-- RESULT_READ HEADER (R180) -/
  | resultHeader (slot : Nat) (h : ResultHeader) (count : Nat)
  /-- RESULT_READ VERTICALS (R180) -/
  | resultVerts (slot : Nat) (verts : List VertRecord) (count : Nat) (more : Bool)
  /-- TAKE_NOTICE (R195) -/
  | notice (n : Notice)
  /-- SET_IDENTITY answered STATE with detail WRITE_FAILED (R191) -/
  | writeFailed
deriving DecidableEq, Repr

/-- A reply in progress (R183): the request's kind and tag, the outcome and the reply fields. -/
structure Reply where
  kind : Byte
  tag : Byte
  code : ReplyCode
  body : ReplyBody
deriving DecidableEq, Repr

/-- The Link Unit (R181, R183, R192, R193, R194). -/
structure LinkUnit where
  rx : Receiver
  reply : Option Reply
  /-- a RESTART answered, whose WARM takes place when its reply has been sent (R192) -/
  restart : Bool
  resetItem : Option ResetKind
  queue : List Notice
deriving DecidableEq, Repr

end Sys2Proof.Machine
end

