-- ==== Sys2Proof/Machine/State.lean ====
section
/-! DEFINITION. The state of the part, and the state right after reset. -/

namespace Sys2Proof.Machine

/-- The faults of the interface. The manual gives every command an effect in every state, so no
command raises one. -/
inductive Fault where
  /-- raised by nobody: the part never stops (safe) -/
  | stopped
deriving DecidableEq, Repr

/-- The refusals of the interface. -/
inductive Refusal where
  /-- a command whose meaning is not written yet; raised by its arm of `exec` alone (safe) -/
  | notModelled (mnemonic : String)
deriving DecidableEq, Repr

/-- The whole state of the part, unit by unit, and the queue of waiting commands. -/
structure State where
  /-- the main domain is powered: POWER_GOOD asserted (R34) -/
  powered : Bool
  /-- the model's own tick clock (R4): notes/assumptions/3.md -/
  ticks : Nat
  time : Timebase
  lock : Lock
  float : Quad
  travel : Quad
  reel : Quad
  index : FloatIndex
  rotor : Rotor
  press : Pressure
  contacts : Contacts
  outs : Outputs
  stage : StageUnit
  samp : Sampling
  /-- the stage history, oldest first: monotonic seconds and stage (R66) -/
  history : List (Nat × Int)
  rating : RatingUnit
  warn : WarningUnit
  drive : DriveUnit
  plan : PlanStore
  flash : FlashUnit
  run : RunUnit
  marker : Marker
  recmem : RecordMemory
  /-- the working copy of the settings; its pressure_offset is not read: O_p is (R40) -/
  settings : Settings
  /-- the stored copy, absent while INVALID (R190) -/
  stored : Option StoredSettings
  identity : Option Nat
  link : LinkUnit
  /-- the commands that wait, first in, first out -/
  pending : List Instr
deriving DecidableEq, Repr

/-- The Timebase Unit after COLD (R18). -/
def Timebase.cold : Timebase :=
  { source := .rc, pending := some { good := 0, closed := 0 }, bad := 0, recent := [],
    clockFail := false, subSecond := 0, mono := 0, calendar := none }

/-- A quadrature channel after COLD, its pins and settings given (R23). -/
def Quad.cold (a b : Bool) (mult : Nat) (reversed : Bool) : Quad :=
  { a := a, b := b, count := 0, tally := 0, saturated := false, dir := none, mult := mult,
    reversed := reversed }

/-- ROTOR after COLD and WARM (R26). -/
def Rotor.start (spacing : Nat) : Rotor :=
  { counting := false, count := 0, saturated := false, last := none, spacing := spacing }

/-- A contact input after COLD and WARM: the level taken from the raw input (R29), the capture items
of 2.7. -/
def ContactLine.start (raw : Bool) : ContactLine :=
  { raw := raw, level := raw, since := none, falling := false, armed := false, captured := false,
    notice := false }

/-- All outputs deasserted (R34). -/
def Outputs.off : Outputs :=
  { travelFwd := false, travelRev := false, reelDown := false, reelUp := false, speedSlow := false,
    siren := false, beacon := false, attn := false }

/-- A level's state with nothing latched or counted (R96). -/
def LevelCell.clear : LevelCell := { latched := false, entry := 0, exit := 0 }

/-- The drive after COLD and WARM (R102). -/
def DriveUnit.start : DriveUnit :=
  { state := .idle, fault := none, travelRef := false, reelRef := false }

/-- A vertical of which nothing is known yet. -/
def Partial.start : Partial :=
  { actualX := none, surface := none, bed := none, depth := none, method := none, points := [],
    point := 0, retry := 0, shallow := false, failed := none, pointFailed := false }

/-- No hold cause (R141). -/
def HoldCauses.none : HoldCauses := { host := false, lockout := false, motion := false }

/-- The Run Sequencer's main-domain state after COLD and WARM (R149). -/
def RunUnit.start : RunUnit :=
  { phase := .idle, snap := none, current := 0, causes := .none, motionCause := none,
    holdAt := none, abortReason := none, vertical := .start, exposure := .none }

/-- The Plan Store's slots and an EMPTY buffer (R117). -/
def PlanStore.start (slots : List (Option PlanSlot)) : PlanStore :=
  { header := none, entries := List.replicate 32 none, buffer := .empty, lastFault := none,
    slots := slots, storeImage := none, loadImage := none }

/-- The Flash Unit with nothing in flight (R121). -/
def FlashUnit.start : FlashUnit :=
  { op := none, settingsImage := none, lastSettings := none, lastRating := none,
    lastPlanStore := none, lastPlanLoad := none }

/-- The Stage Unit after COLD; O_p and the copies come from the settings as loaded (R55). -/
def StageUnit.cold (pressOffset lines circ : Int) : StageUnit :=
  { shaftOffset := 0, pressOffset := pressOffset, shaft := .unreferenced, press := .healthy,
    pressCount := 0, disagree := false, disagreeCount := 0, linesCopy := lines, circCopy := circ,
    reported := { value := none, quality := .missing, mono := none }, lastValue := none,
    meas := none }

/-- The machine right after reset: a COLD of a part as it leaves manufacture, its pins at rest
(notes/assumptions/8.md). -/
def State.reset : State :=
  { powered := true
    ticks := 0
    time := .cold
    lock := .unlocked 0
    float := .cold false false 4 false
    travel := .cold false false 4 false
    reel := .cold false false 4 false
    index := { phase := none, slip := false }
    rotor := .start 5
    press := .idle
    contacts :=
      { surface := .start false, bed := .start false, reelTop := .start false,
        limitNear := .start false, limitFar := .start false, driveFault := .start false,
        door := .start false, spare := .start false }
    outs := { Outputs.off with attn := true }
    stage := .cold 0 250 375000
    samp := { forming := none, period := 900, next := some 900, rate := none }
    history := []
    rating := { active := [], generation := 0, stored := none, staging := [], image := none }
    warn :=
      { watch := .clear, warning := .clear, severe := .clear, ack := .normal, slot := 0,
        slotAt := 0 }
    drive := .start
    plan := .start (List.replicate 6 none)
    flash := .start
    run := .start
    marker := { active := false, slot := 0, runNumber := 0 }
    recmem :=
      { recs := [], next := 0, cursor := none, overrun := false, slots := List.replicate 8 none }
    settings := .defaults
    stored := none
    identity := none
    link :=
      { rx := .hunt, reply := none, restart := false, resetItem := some .cold,
        queue :=
          [.power
            { kind := .cold, storedSettings := false, ratingValid := false, identitySet := false,
              mono := 0, calendar := none }] }
    pending := [] }

end Sys2Proof.Machine
end

