-- ==== Sys2Proof/Machine/Ops.lean ====
section
/-! DEFINITION. The operations every unit shares: whole-number arithmetic, durations, time, the
notice queue, and access to the parts of the state by name. -/

namespace Sys2Proof.Machine

open Sys2Proof.Config

/-! Arithmetic (R2). -/

/-- Division rounded to nearest, halves away from zero (R2); the divisor is positive. -/
def roundDiv (n d : Int) : Int :=
  if 0 ≤ n then (2 * n + d) / (2 * d) else -((2 * -n + d) / (2 * d))

/-- A number brought to the nearer edge of its range (R3). -/
def clampInt (lo hi x : Int) : Int := max lo (min hi x)

/-- round-mean of a list of values (R2). -/
def roundMean (l : List Int) : Int := roundDiv l.sum l.length

/-- A duration of whole milliseconds in ticks (R4). -/
def msTicks (ms : Nat) : Nat := (roundDiv (ms * ticksPerSecond) 1000).toNat

/-- A list with the element at a place replaced by its image. -/
def modifyAt {α : Type} (l : List α) (i : Nat) (f : α → α) : List α :=
  match l, i with
  | [], _ => []
  | x :: xs, 0 => f x :: xs
  | x :: xs, i + 1 => x :: modifyAt xs i f

/-! Time (R13 to R15, R58). -/

/-- The time quality as it stands (R15). -/
def Timebase.quality (t : Timebase) : TimeQuality :=
  match t.calendar, t.source with
  | none, _ => .unset
  | some _, .crystal => .crystal
  | some _, .rc => .rc

/-- Whether the crystal monitor runs (R6). -/
def Timebase.monitoring (t : Timebase) : Bool :=
  decide (t.source = .crystal) || t.pending.isSome

/-- The grid time: calendar seconds when SET, monotonic seconds otherwise (R58). -/
def Timebase.gridTime (t : Timebase) : Nat := t.calendar.getD t.mono

/-- One second event: monotonic seconds hold at their limit, the calendar wraps (R13). -/
def Timebase.second (t : Timebase) : Timebase :=
  { t with
    mono := min (t.mono + 1) max32
    calendar := t.calendar.map fun c => if c = max32 then 0 else c + 1 }

/-- The smallest multiple of the period strictly after the grid time, with the two limits of R58. -/
def Timebase.nextInstant (t : Timebase) (period : Nat) : Option Nat :=
  let m := (t.gridTime / period + 1) * period
  if m ≤ max32 then some m else if t.calendar.isSome then some 0 else none

/-- A time field of a result header (R128). -/
def Timebase.runTime (t : Timebase) : RunTime :=
  { mono := t.mono, calendar := t.calendar, quality := t.quality }

/-! Access by name. -/

/-- A quadrature channel. -/
def State.quad (s : State) : Chan → Quad
  | .float => s.float
  | .travel => s.travel
  | .reel => s.reel

/-- The state with a quadrature channel replaced. -/
def State.setQuad (s : State) (ch : Chan) (q : Quad) : State :=
  match ch with
  | .float => { s with float := q }
  | .travel => { s with travel := q }
  | .reel => { s with reel := q }

/-- A contact input. -/
def Contacts.get (c : Contacts) : Contact → ContactLine
  | .surface => c.surface
  | .bed => c.bed
  | .reelTop => c.reelTop
  | .limitNear => c.limitNear
  | .limitFar => c.limitFar
  | .driveFault => c.driveFault
  | .door => c.door
  | .spare => c.spare

/-- The inputs with one replaced. -/
def Contacts.set (c : Contacts) (i : Contact) (l : ContactLine) : Contacts :=
  match i with
  | .surface => { c with surface := l }
  | .bed => { c with bed := l }
  | .reelTop => { c with reelTop := l }
  | .limitNear => { c with limitNear := l }
  | .limitFar => { c with limitFar := l }
  | .driveFault => { c with driveFault := l }
  | .door => { c with door := l }
  | .spare => { c with spare := l }

/-- The inputs with a function of each input's name applied to it. -/
def Contacts.map (c : Contacts) (f : Contact → ContactLine → ContactLine) : Contacts :=
  { surface := f .surface c.surface, bed := f .bed c.bed, reelTop := f .reelTop c.reelTop,
    limitNear := f .limitNear c.limitNear, limitFar := f .limitFar c.limitFar,
    driveFault := f .driveFault c.driveFault, door := f .door c.door, spare := f .spare c.spare }

/-- The eight inputs in the order of 2.6. -/
def allContacts : List Contact :=
  [.surface, .bed, .reelTop, .limitNear, .limitFar, .driveFault, .door, .spare]

/-- The debounced level of an input (R30). -/
def State.level (s : State) (i : Contact) : Bool := (s.contacts.get i).level

/-- A numeric setting in use. -/
def State.num (s : State) (i : SettingId) : Int := s.settings.num i

/-- A setting in use that is never negative. -/
def State.nat (s : State) (i : SettingId) : Nat := s.settings.nat i

/-- The state after `f`, when the main domain is powered; a command to the unpowered main domain has
no effect (chapter 1, R34, 12). -/
def State.onMain (s : State) (f : State → State) : State := if s.powered then f s else s

/-! Levels in order (chapter 6). -/

/-- The place of a level, which is its code (R186). -/
def Level.code : Level → Nat
  | .normal => 0
  | .watch => 1
  | .warning => 2
  | .severe => 3

/-- The higher of two levels. -/
def Level.higher (a b : Level) : Level := if a.code ≤ b.code then b else a

/-- The lower of two levels. -/
def Level.lower (a b : Level) : Level := if a.code ≤ b.code then a else b

/-- The current level: the highest latched, or NORMAL (R82). -/
def WarningUnit.current (w : WarningUnit) : Level :=
  if w.severe.latched then .severe
  else if w.warning.latched then .warning
  else if w.watch.latched then .watch
  else .normal

/-- Whether a level stands at or above the level a setting names, OFF being code 3 (R90, R91, R94). -/
def reachesLevel (setting : Nat) (l : Level) : Bool := decide (setting < 3) && decide (setting < l.code)

/-- Whether storm is active (R90). -/
def State.storm (s : State) : Bool := reachesLevel (s.nat .stormLevel) s.warn.current

/-- Whether lockout is active (R91). -/
def State.lockout (s : State) : Bool := reachesLevel (s.nat .lockoutLevel) s.warn.current

/-! The notice queue (R194). -/

/-- The kind of a notice. -/
def Notice.kind : Notice → NoticeKind
  | .level _ => .level
  | .run _ => .run
  | .longOp _ => .longOp
  | .clock _ => .clock
  | .sensor _ => .sensor
  | .line _ => .line
  | .motion _ => .motion
  | .power _ => .power
  | .archive _ => .archive

/-- The union of two sets of inputs. -/
def LineSet.union (x y : LineSet) : LineSet :=
  { surface := x.surface || y.surface, bed := x.bed || y.bed, reelTop := x.reelTop || y.reelTop,
    limitNear := x.limitNear || y.limitNear, limitFar := x.limitFar || y.limitFar,
    driveFault := x.driveFault || y.driveFault, door := x.door || y.door,
    spare := x.spare || y.spare }

/-- The content of a queued entry combined with a new notice of its kind (the table of R194). -/
def Notice.combine (old new : Notice) : Notice :=
  match old, new with
  | .level o, .level n =>
    .level { n with from_ := o.from_, peak := o.peak.higher n.to_ }
  | .sensor o, .sensor n =>
    .sensor
      { n with
        changed :=
          { shaft := o.changed.shaft || n.changed.shaft
            press := o.changed.press || n.changed.press
            disagree := o.changed.disagree || n.changed.disagree } }
  | .line o, .line n => .line (o.union n)
  | .archive o, .archive n =>
    .archive
      { n with skipped := o.skipped + n.skipped, renumbered := o.renumbered || n.renumbered }
  | _, n => n

/-- A notice placed in the queue: last when its kind has no entry, combined in its place otherwise
(R194). -/
def enqueue (n : Notice) : List Notice → List Notice
  | [] => [n]
  | m :: q => if m.kind = n.kind then m.combine n :: q else m :: enqueue n q

/-- A notice raised: queued, with ATTN asserted (R194, R195); lost while the main domain is
unpowered (R17). -/
def State.raise (s : State) (n : Notice) : State :=
  if s.powered then
    { s with
      link := { s.link with queue := enqueue n s.link.queue }
      outs := { s.outs with attn := true } }
  else s

/-- The queue replaced, with ATTN following it (R195). -/
def State.setQueue (s : State) (q : List Notice) : State :=
  { s with
    link := { s.link with queue := q }
    outs := { s.outs with attn := !q.isEmpty } }

end Sys2Proof.Machine
end

