-- ==== Sys2Proof/Machine/RatingOps.lean ====
section
/-! DEFINITION. The rating tables: lookup, order of rows, commit (chapter 5). -/

namespace Sys2Proof.Machine

open Sys2Proof.Config

/-- The straight line through two rows, at a stage (R71, R72). -/
def interpolate (lo hi : Row) (h : Int) : Int :=
  lo.flow + roundDiv ((hi.flow - lo.flow) * (h - lo.stage)) (hi.stage - lo.stage)

/-- The discharge at a stage at or above the first row's stage, from the rows in order (R71, R72). -/
def flowFrom : List Row → Int → Int × RangeFlag
  | [], _ => (0, .none)
  | [r], h => (r.flow, if h = r.stage then .none else .above)
  | r :: r' :: rest, h =>
    if h = r.stage then (r.flow, .none)
    else if h < r'.stage then (interpolate r r' h, .none)
    else if rest.isEmpty && decide (r'.stage < h) then
      (min dischargeMax (interpolate r r' h), .above)
    else flowFrom (r' :: rest) h

/-- A lookup of the active table (R70 to R72). -/
def RatingUnit.lookup (u : RatingUnit) (h : Int) : Lookup :=
  match u.active with
  | [] => { flow := none, flag := .none, generation := none }
  | r :: rest =>
    if h < r.stage then { flow := some 0, flag := .below, generation := some u.generation }
    else
      let (q, flag) := flowFrom (r :: rest) h
      { flow := some q, flag := flag, generation := some u.generation }

/-- The lowest row, from index 1 upward, that breaks an order; STAGE_ORDER is named when a row breaks
both (R75). -/
def orderFault : Nat → List Row → Option CommitFault
  | i, r :: r' :: rest =>
    if r'.stage ≤ r.stage then some (.stageOrder i)
    else if r'.flow < r.flow then some (.dischargeOrder i)
    else orderFault (i + 1) (r' :: rest)
  | _, _ => none

/-- The content fault of a staging table, if any (R75). -/
def commitFault (rows : List Row) : Option CommitFault :=
  if rows.length < 2 then some .tooFew else orderFault 1 rows

/-- The generation after one more commit (R75, R77). -/
def nextGeneration (g : Nat) : Nat := if g = max16 then 0 else g + 1

end Sys2Proof.Machine
end

