-- ==== Sys2Proof/Machine/StoredCopies.lean ====
section
/-! DEFINITION. What flash holds with a check value beside it: the plan slots, the stored rating and the
stored settings; what each store programs, and how a reset judges it (R69, R76, R79, R114, R122, R123,
R190; notes/assumptions/35.md). -/

namespace Sys2Proof.Machine

open Sys2Proof.Config

/-! Plan slots (R114, R122). -/

/-- Whether a name holds 0 to 12 printable characters (R114). -/
def nameFits (name : List Byte) : Bool :=
  decide (name.length ≤ 12) && name.all fun b => decide (0x20 ≤ b) && decide (b ≤ 0x7E)

/-- Whether a header lies within the ranges and lists of R114. -/
def PlanHeader.legal (h : PlanHeader) : Bool :=
  nameFits h.name && decide (3 ≤ h.count) && decide (h.count ≤ 32) && decide (h.method ≠ .default)

/-- Whether an entry lies within the ranges of R114. -/
def PlanEntry.legal : PlanEntry → Bool
  | .edge x d c =>
    decide (-1000000 ≤ x) && decide (x ≤ 1000000) && decide (0 ≤ d) && decide (d ≤ 5000) &&
      decide (0 ≤ c) && decide (c ≤ 1000)
  | .metered x _ t r =>
    decide (-1000000 ≤ x) && decide (x ≤ 1000000) && decide (20 ≤ t) && decide (t ≤ 300) &&
      decide (1 ≤ r) && decide (r ≤ 4)

/-- Whether a plan holds entries 1 to n of its header, all within the ranges and lists of R114. -/
def StoredPlan.legal (p : StoredPlan) : Bool :=
  p.header.legal && decide (p.entries.length = p.header.count) && p.entries.all PlanEntry.legal

/-- The numbers of an entry, in the order of R114. -/
def PlanEntry.numbers : PlanEntry → List Int
  | .edge x d c => [0, x, d, c]
  | .metered x m t r => [1, x, m.ctorIdx, t, r]

/-- The numbers of a plan, which its check value is taken over (R122). -/
def StoredPlan.numbers (p : StoredPlan) : List Int :=
  (p.header.name.length : Int) :: p.header.name.map (fun b => (b.toNat : Int)) ++
    [(p.header.count : Int), (p.header.method.ctorIdx : Int)] ++
    p.entries.flatMap PlanEntry.numbers

/-- A plan as a store programs it: with its check value (R123). -/
def StoredPlan.programmed (p : StoredPlan) : PlanSlot := { plan := p, check := checkValue p.numbers }

/-- Whether the check value of a slot matches its content (R122, R125). -/
def PlanSlot.matched (c : PlanSlot) : Bool := decide (c.check = checkValue c.plan.numbers)

/-- A slot as a reset judges it: STORED when its check value matches and its content lies within the
ranges and lists of R114, EMPTY otherwise (R122). -/
def judgeSlot (c : Option PlanSlot) : Option PlanSlot :=
  c.filter fun p => p.matched && p.plan.legal

/-! The stored rating (5.1, R69, R76, R79). -/

/-- Whether a row lies within the ranges of 5.1. -/
def Row.legal (r : Row) : Bool :=
  decide (stageMin ≤ r.stage) && decide (r.stage ≤ stageMax) && decide (0 ≤ r.flow) &&
    decide (r.flow ≤ dischargeMax)

/-- Whether rows meet the conditions of an active table: 2 to 24 of them, within the ranges of 5.1, with
ascending stages and non-decreasing discharges (5.1, R69). -/
def tableLegal (rows : List Row) : Bool :=
  decide (commitFault rows = none) && decide (rows.length ≤ 24) && rows.all Row.legal

/-- The numbers of a stored rating, which its check value is taken over (5.1). -/
def ratingNumbers (rows : List Row) (generation : Nat) : List Int :=
  (generation : Int) :: rows.flatMap fun r => [r.stage, r.flow]

/-- The stored copy as a commit programs it: rows, generation and check value (R76). -/
def programRating (rows : List Row) (generation : Nat) : StoredRating :=
  { rows := rows, generation := generation,
    check := ratingCheckValue (ratingNumbers rows generation) }

/-- Whether the check value of the stored rating matches its content (R69). -/
def StoredRating.matched (c : StoredRating) : Bool :=
  decide (c.check = ratingCheckValue (ratingNumbers c.rows c.generation))

/-- The stored copy as a reset judges it: VALID when its check value matches and its rows meet the
conditions of an active table, absent, that is INVALID, otherwise (R69). -/
def judgeRating (c : Option StoredRating) : Option StoredRating :=
  c.filter fun r => r.matched && tableLegal r.rows

/-- The Rating Unit rebuilt from flash at a reset (R69, R79). -/
def RatingUnit.reload (u : RatingUnit) : RatingUnit :=
  let copy := judgeRating u.stored
  { active := (copy.map (·.rows)).getD []
    generation := (copy.map (·.generation)).getD 0
    stored := copy
    staging := []
    image := none }

/-! The stored settings (R190). -/

/-- Whether every value of a copy lies within its range and list (R190). -/
def Settings.legal (t : Settings) : Bool :=
  decide (t.vals.length = 99) && allSettings.all fun i => i.kind.legal (t.get i)

/-- The numbers of a copy of the settings, which its check value is taken over (R190). -/
def Settings.numbers (t : Settings) : List Int :=
  t.vals.flatMap fun v =>
    match v with
    | none => [0]
    | some x => [1, x]

/-- A copy of the settings as a store programs it: with its check value (R190). -/
def Settings.programmed (t : Settings) : StoredSettings :=
  { settings := t, check := settingsCheckValue t.numbers }

/-- Whether the check value of the stored settings matches their content (R190). -/
def StoredSettings.matched (c : StoredSettings) : Bool :=
  decide (c.check = settingsCheckValue c.settings.numbers)

/-- The stored settings as a reset judges them: VALID when the check value matches and every value lies
within its range and list, absent, that is INVALID, otherwise (R190). -/
def judgeSettings (c : Option StoredSettings) : Option StoredSettings :=
  c.filter fun t => t.matched && t.settings.legal

end Sys2Proof.Machine
end

