-- ==== Sys2Proof/Machine/Discharge.lean ====
section
/-! DEFINITION. The Discharge Unit: velocities of points and verticals, the completion of unmeasured
verticals, panels, totals and the rating check (chapter 10). It holds no state. -/

namespace Sys2Proof.Machine

open Sys2Proof.Config

/-! Point velocity (R152 to R156). -/

/-- The rotor speed of a repeat in mrev/s; `exposure` is in seconds (R152). -/
def rotorSpeed (pulses : Int) (exposure count : Nat) : Int :=
  roundDiv (count * 1000 * ticksPerSecond) (pulses * (exposure * ticksPerSecond))

/-- The segment of the meter rating used for a rotor speed (R153). -/
def meterSegment (t : Settings) (speed : Int) : Nat :=
  let j := if speed < t.num .meterBreak1 then 1 else if speed < t.num .meterBreak2 then 2 else 3
  min j (t.nat .meterSegments)

/-- The pitch of a segment (10.1). -/
def meterPitch (t : Settings) : Nat → Int
  | 1 => t.num .meterA1
  | 2 => t.num .meterA2
  | _ => t.num .meterA3

/-- The constant of a segment (10.1). -/
def meterConstant (t : Settings) : Nat → Int
  | 1 => t.num .meterB1
  | 2 => t.num .meterB2
  | _ => t.num .meterB3

/-- The velocity the meter rating gives for a rotor speed (R153). -/
def meterVelocity (t : Settings) (speed : Int) : Int :=
  let j := meterSegment t speed
  roundDiv (meterPitch t j * speed + meterConstant t j * 1000) 1000000

/-- The flags of one repeat (R154). -/
structure RepeatFlags where
  still : Bool
  fast : Bool
  saturated : Bool
deriving DecidableEq, Repr

/-- The count of a repeat as computed with: 65 535 when its saturated flag is set (R152). -/
def Repeat.used (r : Repeat) : Nat := if r.saturated then max16 else r.count

/-- The velocity of a repeat within limits, with its flags (R152 to R154). -/
def repeatVelocity (t : Settings) (exposure : Nat) (r : Repeat) : Int × RepeatFlags :=
  let speed := rotorSpeed (t.num .meterPulses) exposure r.used
  if r.used = 0 ∨ speed < t.num .meterStartSpeed then
    (0, { still := true, fast := false, saturated := r.saturated })
  else
    let v := meterVelocity t speed
    if v < 0 then (0, { still := true, fast := false, saturated := r.saturated })
    else if 10000 < v then (10000, { still := false, fast := true, saturated := r.saturated })
    else (v, { still := false, fast := false, saturated := r.saturated })

/-- The largest value of a list (0 for none). -/
def maxOf : List Int → Int
  | [] => 0
  | [x] => x
  | x :: xs => max x (maxOf xs)

/-- The least value of a list (0 for none). -/
def minOf : List Int → Int
  | [] => 0
  | [x] => x
  | x :: xs => min x (minOf xs)

/-- The spread of repeats is above the limit (R155). -/
def spreadAbove (limit : Int) (vs : List Int) (mean : Int) : Bool :=
  decide (1 < vs.length) && decide (limit * mean < (maxOf vs - minOf vs) * 100)

/-- A point with its velocity and the flags of its repeats; a failed point has none (R155, R156). -/
def Point.measure (t : Settings) (exposure : Nat) (p : Point) : Point :=
  if p.failure.isSome ∨ p.repeats = [] then p
  else
    let rs := p.repeats.map (repeatVelocity t exposure)
    let vs := rs.map (·.1)
    let v := roundMean vs
    { p with
      velocity := some v
      flags :=
        { p.flags with
          still := rs.any (·.2.still)
          fast := rs.any (·.2.fast)
          saturated := rs.any (·.2.saturated)
          spread := spreadAbove (t.num .spreadLimit) vs v } }

/-! Vertical mean velocity (R157, R158). -/

/-- The velocity of the point at a fraction. -/
def velocityAt (ps : List Point) (fraction : Option Nat) : Option Int :=
  (ps.find? fun p => decide (p.fraction = fraction)).bind (·.velocity)

/-- The measured mean of a vertical from its point velocities, by the method used (R157); absent when
a point it needs has no velocity (R158). -/
def measuredMean (surfaceCoef : Int) (m : Method) (ps : List Point) : Option Int :=
  match m with
  | .one => velocityAt ps (some 600)
  | .two => do
    let v2 ← velocityAt ps (some 200)
    let v8 ← velocityAt ps (some 800)
    return roundDiv (v2 + v8) 2
  | .three => do
    let v2 ← velocityAt ps (some 200)
    let v6 ← velocityAt ps (some 600)
    let v8 ← velocityAt ps (some 800)
    return roundDiv (v2 + 2 * v6 + v8) 4
  | .surface => do
    let v ← velocityAt ps none
    return roundDiv (v * surfaceCoef) 1000

/-! The end of the run (R159 to R167). -/

/-- The measured mean of a velocity-bearing vertical (R158). -/
def VertRecord.measured (v : VertRecord) : Option Int :=
  if v.kind = .metered ∧ !v.interpolated then v.velocity else none

/-- Whether a vertical is to be given an interpolated velocity: SHALLOW, POINT_FAILED or FAILED
(R160). -/
def VertRecord.unmeasured (v : VertRecord) : Bool :=
  decide (v.kind = .metered) && v.measured.isNone

/-- The first measured mean of a list of verticals. -/
def firstMeasured (l : List VertRecord) : Option Int :=
  (l.find? fun v => v.measured.isSome).bind VertRecord.measured

/-- The velocity interpolated between the nearest measured means on the two sides (R160). -/
def interpolatedVelocity (left right : Option Int) : Int :=
  match left, right with
  | some a, some b => roundMean [a, b]
  | some a, none => a
  | none, some b => b
  | none, none => 0

/-- Step 2: the unmeasured verticals with interpolated velocities; `left` holds the verticals already
passed, the nearest first (R160). -/
def fillVelocities (left : List VertRecord) : List VertRecord → List VertRecord
  | [] => []
  | v :: rest =>
    let v' :=
      if v.unmeasured then
        { v with
          velocity := some (interpolatedVelocity (firstMeasured left) (firstMeasured rest))
          interpolated := true }
      else v
    v' :: fillVelocities (v :: left) rest

/-- Step 3: the FAILED verticals with interpolated depths, from left to right; `left` is the depth of
the left neighbour (R161). -/
def fillDepths (left : Int) : List VertRecord → List VertRecord
  | [] => []
  | v :: rest =>
    let v' :=
      if v.failed.isSome ∧ v.depth.isNone then
        match rest.head?.bind (·.depth) with
        | some right => { v with depth := some (roundMean [left, right]) }
        | none => { v with depth := some left }
      else v
    v' :: fillDepths (v'.depth.getD left) rest

/-- The coefficient of an EDGE entry (R114). -/
def PlanEntry.coef : PlanEntry → Int
  | .edge _ _ c => c
  | .metered _ _ _ _ => 0

/-- An EDGE vertical with its velocity (R162). -/
def edgeVelocity (entry : Option PlanEntry) (adjacent : Option VertRecord) (v : VertRecord) :
    VertRecord :=
  if v.kind = .edge then
    { v with
      velocity :=
        some (roundDiv ((entry.map PlanEntry.coef).getD 0 * (adjacent.bind (·.velocity)).getD 0)
          1000) }
  else v

/-- Step 4: the velocities of the two EDGE verticals (R162). -/
def fillEdges (entries : List PlanEntry) (vs : List VertRecord) : List VertRecord :=
  let n := vs.length
  let first := modifyAt vs 0 (edgeVelocity entries[0]? vs[1]?)
  modifyAt first (n - 1) (edgeVelocity entries[n - 1]? first[n - 2]?)

/-- Steps 2 to 4: the completed verticals (R159). -/
def completeVerticals (entries : List PlanEntry) (vs : List VertRecord) : List VertRecord :=
  let filled := fillVelocities [] vs
  fillEdges entries (fillDepths ((filled.head?.bind (·.depth)).getD 0) filled)

/-- The panel widths in half-millimetres before clamping, from the positions in order; `left` is the
position to the left of the first (R163). -/
def rawWidthsFrom (left : Int) : List Int → List Int
  | [] => []
  | [x] => [x - left]
  | x :: x' :: rest => (x' - left) :: rawWidthsFrom x (x' :: rest)

/-- The panel widths in half-millimetres before clamping (R163). -/
def rawWidths (xs : List Int) : List Int := rawWidthsFrom (xs.headD 0) xs

/-- The panel widths, a negative one taken as 0 (R163). -/
def widths (xs : List Int) : List Int := (rawWidths xs).map (max 0)

/-- The discharge sum S_q and the area sum S_a (R164). -/
def panelSums (vs : List VertRecord) : Int × Int :=
  let ws := widths (vs.map (·.actualX))
  let terms := (vs.zip ws).map fun p =>
    ((p.1.velocity.getD 0) * (p.1.depth.getD 0) * p.2, (p.1.depth.getD 0) * p.2)
  ((terms.map (·.1)).sum, (terms.map (·.2)).sum)

/-- The mean stage: absent when the end stage is absent (R166). -/
def meanStage (start : Int) (end_ : Option Int) : Option Int :=
  end_.map fun e => roundDiv (start + e) 2

/-- The deviation in tenths of a percent (R167). -/
def ratingDeviation (q qr : Option Int) : Option Int :=
  match q, qr with
  | some q, some r =>
    if r = 0 then none
    else some (clampInt (-999999) 999999 (roundDiv ((q - r) * 1000) r))
  | _, _ => none

/-- Steps 6 to 8: the header with totals, status, rating check and flags, from the verticals as
written (`vs`) and as completed (`done`) (R163 to R168). -/
def completeHeader (t : Settings) (rating : RatingUnit) (h : ResultHeader)
    (vs done : List VertRecord) : ResultHeader :=
  let m := (vs.filter fun v => v.measured.isSome).length
  let nInterp := (vs.filter VertRecord.unmeasured).length
  let complete := decide (2 ≤ m)
  let (sq, sa) := panelSums done
  let q := if complete then some (roundDiv sq 2000000) else none
  let endStage := h.endStage.map (·.value)
  let mean := meanStage h.startStage.value endStage
  let look := mean.map rating.lookup
  let qr := look.bind (·.flow)
  { h with
    status := if complete then .complete else .insufficient
    meanStage := mean
    discharge := q
    area := if complete then some (roundDiv sa 200) else none
    meanVelocity := if complete ∧ sa ≠ 0 then some (roundDiv sq sa) else none
    ratingFlow := qr
    generation := look.bind (·.generation)
    deviation := ratingDeviation q qr
    interpCount := some nInterp
    flags :=
      { h.flags with
        poor := decide (t.num .maxInterp < nInterp)
        unsteady :=
          match endStage with
          | some e => decide (t.num .unsteadyLimit < (e - h.startStage.value).natAbs)
          | none => false
        order := (rawWidths (done.map (·.actualX))).any fun w => decide (w < 0) } }

/-- The end computation of a run on its result (R159). -/
def endComputation (snap : Snapshot) (rating : RatingUnit) (r : RunResult) : RunResult :=
  let done := completeVerticals snap.entries r.verts
  { header := completeHeader snap.settings rating r.header r.verts done, verts := done }

end Sys2Proof.Machine
end

