-- ==== Sys2Proof/Machine/Channels.lean ====
section
/-! DEFINITION. The count channels of chapter 2 on their own: quadrature decoding, the FLOAT index,
ROTOR and PRESSURE. -/

namespace Sys2Proof.Machine

open Sys2Proof.Config

/-! Quadrature (R20 to R22). -/

/-- Whether a change of one input follows the forward order 00, 10, 11, 01 (R20). -/
def forwardTransition (a b a' b' : Bool) : Bool :=
  if a != a' then a' != b else b' == a

/-- Whether the multiplier counts a change of one input; `aChanged` tells that it was A (R20). -/
def countedTransition (mult : Nat) (aChanged b : Bool) : Bool :=
  match mult with
  | 1 => aChanged && !b
  | 2 => aChanged
  | _ => true

/-- A counted transition of the given sign (R20, R22); whether the count changed. -/
def Quad.step (q : Quad) (positive : Bool) : Quad × Bool :=
  let c := if positive then q.count + 1 else q.count - 1
  if countMin ≤ c ∧ c ≤ countMax then ({ q with count := c, dir := some positive }, true)
  else ({ q with saturated := true }, false)

/-- One observation of a channel's pair (R20, R21); whether the count changed. -/
def Quad.observe (q : Quad) (a b : Bool) : Quad × Bool :=
  if a = q.a ∧ b = q.b then (q, false)
  else
    let q' := { q with a := a, b := b }
    if a ≠ q.a ∧ b ≠ q.b then ({ q' with tally := min (q.tally + 1) max16 }, false)
    else if countedTransition q.mult (a != q.a) b then
      q'.step (forwardTransition q.a q.b a b != q.reversed)
    else (q', false)

/-- The clear operation (R22). -/
def Quad.clear (q : Quad) : Quad := { q with tally := 0, saturated := false }

/-- The preset operation (R22). -/
def Quad.preset (q : Quad) (count : Int) : Quad := { q with count := count, saturated := false }

/-- The multiplier and direction in use replaced; a change empties the remembered direction (R23). -/
def Quad.configure (q : Quad) (mult : Nat) (reversed : Bool) : Quad :=
  if mult = q.mult ∧ reversed = q.reversed then q
  else { q with mult := mult, reversed := reversed, dir := none }

/-- Whether a count lies in the range of a channel (2.1). -/
def inCountRange (c : Int) : Bool := decide (countMin ≤ c) && decide (c ≤ countMax)

/-! The FLOAT index (R24, R25). -/

/-- The count minus the nearest reference value, the lower of two equally near ones taken (R25). -/
def indexDeviation (count : Int) (phase cpr : Nat) : Int :=
  let d := (count - phase) % (cpr : Int)
  if 2 * d ≤ cpr then d else d - cpr

/-- A rising edge of FLOAT_I, with mode OFF 0, CHECK 1 or CORRECT 2 (R24, R25). -/
def indexEdge (mode : Nat) (tolerance : Int) (cpr : Nat) (q : Quad) (ix : FloatIndex) :
    Quad × FloatIndex :=
  if mode = 0 ∨ q.dir ≠ some true then (q, ix)
  else
    match ix.phase with
    | none => (q, { ix with phase := some (q.count % (cpr : Int)).toNat })
    | some r =>
      let dev := indexDeviation q.count r cpr
      if dev.natAbs ≤ tolerance then (q, ix)
      else
        let ix' := { ix with slip := true }
        if mode = 2 ∧ inCountRange (q.count - dev) then (q.preset (q.count - dev), ix')
        else (q, ix')

/-! ROTOR (R26). -/

/-- A rising edge of ROTOR at a tick time (R26). -/
def Rotor.edge (r : Rotor) (now : Nat) : Rotor :=
  let spaced :=
    match r.last with
    | none => true
    | some t => decide (t + msTicks r.spacing ≤ now)
  if r.counting && spaced then
    if r.count < max16 then { r with count := r.count + 1, last := some now }
    else { r with saturated := true, last := some now }
  else r

/-- The start operation (R26). -/
def Rotor.begin_ (r : Rotor) (spacing : Nat) : Rotor :=
  { r with counting := true, count := 0, saturated := false, last := none, spacing := spacing }

/-- The stop operation (R26). -/
def Rotor.stop (r : Rotor) : Rotor := { r with counting := false }

/-! PRESSURE (R27). -/

/-- The result of a rising edge of PRESSURE that finds counter B at `b`: the channel after it, and
the pair when the edge completes A (R27). -/
def Pressure.edge (p : Pressure) (b : Nat) : Pressure × Option (Nat × Nat) :=
  match p with
  | .idle => (.idle, none)
  | .waiting n start => (.measuring n n 0 start, none)
  | .measuring n a _ start =>
    if a ≤ 1 then (.idle, some (n, b)) else (.measuring n (a - 1) b start, none)

/-- Whether a measurement is in flight (R28). -/
def Pressure.inFlight : Pressure → Bool
  | .idle => false
  | _ => true

end Sys2Proof.Machine
end

