-- ==== Sys2Proof/Machine/Operands.lean ====
section
/-! DEFINITION. The operand forms: codes of choices, sets of inputs, and the settings that belong to a
channel, an axis, an input or a level. -/

namespace Sys2Proof.Machine

/-! Choices by code (R186). -/

/-- A level by its code. -/
def Level.ofCode : Nat → Option Level
  | 0 => some .normal
  | 1 => some .watch
  | 2 => some .warning
  | 3 => some .severe
  | _ => none

/-- A method of an entry by its code: AUTO, ONE, TWO, THREE, SURFACE, DEFAULT (R114). -/
def EntryMethod.ofCode : Nat → Option EntryMethod
  | 0 => some .auto
  | 1 => some .one
  | 2 => some .two
  | 3 => some .three
  | 4 => some .surface
  | 5 => some .default
  | _ => none

/-- A default method of a header by its code: the list of R114 without DEFAULT. -/
def headerMethod (code : Nat) : Option EntryMethod :=
  if code < 5 then EntryMethod.ofCode code else none

/-! Sets of inputs (R31, R32). -/

/-- The set a byte spells: bit 0 for SURFACE (R186). -/
def LineSet.ofByte (b : Byte) : LineSet :=
  { surface := b.getLsbD 0, bed := b.getLsbD 1, reelTop := b.getLsbD 2, limitNear := b.getLsbD 3,
    limitFar := b.getLsbD 4, driveFault := b.getLsbD 5, door := b.getLsbD 6,
    spare := b.getLsbD 7 }

/-- Whether a set names an input. -/
def LineSet.has (l : LineSet) : Contact → Bool
  | .surface => l.surface
  | .bed => l.bed
  | .reelTop => l.reelTop
  | .limitNear => l.limitNear
  | .limitFar => l.limitFar
  | .driveFault => l.driveFault
  | .door => l.door
  | .spare => l.spare

/-- The set of the inputs a test holds for. -/
def LineSet.build (f : Contact → Bool) : LineSet :=
  { surface := f .surface, bed := f .bed, reelTop := f .reelTop, limitNear := f .limitNear,
    limitFar := f .limitFar, driveFault := f .driveFault, door := f .door, spare := f .spare }

/-- Whether a set names no input. -/
def LineSet.isEmpty (l : LineSet) : Bool := allContacts.all fun c => !l.has c

/-- Whether every input of the first set is in the second. -/
def LineSet.subset (l m : LineSet) : Bool := allContacts.all fun c => !l.has c || m.has c

/-- The inputs of the first set that are not in the second. -/
def LineSet.diff (l m : LineSet) : LineSet := .build fun c => l.has c && !m.has c

/-! Settings by what they belong to. -/

/-- The debounce setting of an input (2.6). -/
def debounceSetting : Contact → SettingId
  | .surface => .debounceSurface
  | .bed => .debounceBed
  | .reelTop => .debounceReelTop
  | .limitNear => .debounceLimitNear
  | .limitFar => .debounceLimitFar
  | .driveFault => .debounceDriveFault
  | .door => .debounceDoor
  | .spare => .debounceSpare

/-- The multiplier setting of a channel (2.1). -/
def multSetting : Chan → SettingId
  | .float => .floatMultiplier
  | .travel => .travelMultiplier
  | .reel => .reelMultiplier

/-- The direction setting of a channel (2.1). -/
def dirSetting : Chan → SettingId
  | .float => .floatDirection
  | .travel => .travelDirection
  | .reel => .reelDirection

/-- The channel of an axis (R99). -/
def Axis.chan : Axis → Chan
  | .travel => .travel
  | .reel => .reel

/-- The circumference setting of an axis (7.1). -/
def Axis.circ : Axis → SettingId
  | .travel => .travelCircumference
  | .reel => .reelCircumference

/-- The line count setting of an axis (7.1). -/
def Axis.lines : Axis → SettingId
  | .travel => .travelLines
  | .reel => .reelLines

/-- The slow zone of an axis (7.1). -/
def Axis.slowZone : Axis → SettingId
  | .travel => .travelSlowZone
  | .reel => .reelSlowZone

/-- The eight settings of a level above NORMAL (6.1). -/
structure LevelSettings where
  stageOn : Option Int
  stageHyst : Int
  riseOn : Option Int
  riseHyst : Int
  flowOn : Option Int
  flowHyst : Int
  nOn : Nat
  nOff : Nat
deriving DecidableEq, Repr

/-- The settings of WATCH. -/
def Settings.watch (t : Settings) : LevelSettings :=
  { stageOn := t.get .watchStageOn, stageHyst := t.num .watchStageHyst,
    riseOn := t.get .watchRiseOn, riseHyst := t.num .watchRiseHyst,
    flowOn := t.get .watchFlowOn, flowHyst := t.num .watchFlowHyst,
    nOn := t.nat .watchNOn, nOff := t.nat .watchNOff }

/-- The settings of WARNING. -/
def Settings.warning (t : Settings) : LevelSettings :=
  { stageOn := t.get .warningStageOn, stageHyst := t.num .warningStageHyst,
    riseOn := t.get .warningRiseOn, riseHyst := t.num .warningRiseHyst,
    flowOn := t.get .warningFlowOn, flowHyst := t.num .warningFlowHyst,
    nOn := t.nat .warningNOn, nOff := t.nat .warningNOff }

/-- The settings of SEVERE. -/
def Settings.severe (t : Settings) : LevelSettings :=
  { stageOn := t.get .severeStageOn, stageHyst := t.num .severeStageHyst,
    riseOn := t.get .severeRiseOn, riseHyst := t.num .severeRiseHyst,
    flowOn := t.get .severeFlowOn, flowHyst := t.num .severeFlowHyst,
    nOn := t.nat .severeNOn, nOff := t.nat .severeNOff }

/-- A level is enabled when it uses at least one kind (R80). -/
def LevelSettings.enabled (l : LevelSettings) : Bool :=
  l.stageOn.isSome || l.riseOn.isSome || l.flowOn.isSome

/-- The beacon pattern of a level (6.1). -/
def Level.beacon : Level → SettingId
  | .normal => .beaconNormal
  | .watch => .beaconWatch
  | .warning => .beaconWarning
  | .severe => .beaconSevere

/-- The siren pattern of a level; NORMAL has none (6.1). -/
def Level.siren : Level → Option SettingId
  | .normal => none
  | .watch => some .sirenWatch
  | .warning => some .sirenWarning
  | .severe => some .sirenSevere

end Sys2Proof.Machine
end

