-- ==== Sys2Proof/Machine/DriveOps.lean ====
section
/-! DEFINITION. The Cableway Drive Unit: positions, references, move requests, execution, faults and
STOP (chapter 7). An operation answers the state and what the drive has to report. -/

namespace Sys2Proof.Machine

open Sys2Proof.Config

/-! Positions and references (R99 to R101). -/

/-- The counts per revolution of an axis: its line count times its channel's multiplier (R99). -/
def State.axisCpr (s : State) (ax : Axis) : Int := s.num ax.lines * (s.quad ax.chan).mult

/-- The position computed from an axis's count, whatever its reference state (R99). -/
def State.position (s : State) (ax : Axis) : Int :=
  roundDiv ((s.quad ax.chan).count * s.num ax.circ) (s.axisCpr ax * 1000)

/-- Whether an axis is REFERENCED (R99). -/
def State.referenced (s : State) : Axis → Bool
  | .travel => s.drive.travelRef
  | .reel => s.drive.reelRef

/-- The state with an axis's reference state replaced. -/
def State.setReferenced (s : State) (ax : Axis) (r : Bool) : State :=
  match ax with
  | .travel => { s with drive := { s.drive with travelRef := r } }
  | .reel => { s with drive := { s.drive with reelRef := r } }

/-- A position as reported: absent while its axis is UNREFERENCED (R99). -/
def State.reportable (s : State) (ax : Axis) (p : Option Int) : Option Int :=
  if s.referenced ax then p else none

/-- The axis check: unreferences the axis when its channel has saturated or gathered 3 phase errors,
and clears the channel; the cause is present when it unreferenced the axis (R101). -/
def State.axisCheck (s : State) (ax : Axis) : State × Option CheckCause :=
  let q := s.quad ax.chan
  let bad := q.saturated || decide (3 ≤ q.tally)
  let cleared := s.setQuad ax.chan q.clear
  if bad then
    (cleared.setReferenced ax false,
      if s.referenced ax then
        some { saturation := q.saturated, phaseErrors := decide (3 ≤ q.tally) }
      else none)
  else (cleared, none)

/-- The reel referenced at its top: the count preset to 0 (R100). -/
def State.referenceReel (s : State) : State :=
  { s with reel := s.reel.preset 0, drive := { s.drive with reelRef := true } }

/-- The counts equivalent of home_x (R100). -/
def State.homeCount (s : State) : Int :=
  roundDiv (s.num .homeX * s.axisCpr .travel * 1000) (s.num .travelCircumference)

/-- The travel referenced at LIMIT_NEAR, unless the counts equivalent of home_x lies outside the
count range (R100; notes/assumptions/14.md). -/
def State.referenceTravel (s : State) : State :=
  if inCountRange s.homeCount then
    { s with travel := s.travel.preset s.homeCount, drive := { s.drive with travelRef := true } }
  else { s with drive := { s.drive with travelRef := false } }

/-! Outputs (R102, R106). -/

/-- The five drive outputs deasserted (R102). -/
def Outputs.driveOff (o : Outputs) : Outputs :=
  { o with travelFwd := false, travelRev := false, reelDown := false, reelUp := false,
           speedSlow := false }

/-- The drive outputs of a move: the one direction output that matches, and SPEED_SLOW in phase SLOW
(R105, R106). -/
def Outputs.driveMove (o : Outputs) (m : Move) : Outputs :=
  { o with travelFwd := decide (m.axis = .travel) && m.forward
           travelRev := decide (m.axis = .travel) && !m.forward
           reelDown := decide (m.axis = .reel) && m.forward
           reelUp := decide (m.axis = .reel) && !m.forward
           speedSlow := m.slowPhase }

/-- The drive MOVING with a move, its outputs driven (R102, R106). -/
def State.setMoving (s : State) (m : Move) : State :=
  { s with drive := { s.drive with state := .moving m }, outs := s.outs.driveMove m }

/-- The drive in a state that drives no output (R102). -/
def State.setStopped (s : State) (d : DriveState) : State :=
  { s with drive := { s.drive with state := d }, outs := s.outs.driveOff }

/-- The move in flight: MOVING or SETTLING (R102). -/
def DriveState.move? : DriveState → Option Move
  | .idle => none
  | .moving m => some m
  | .settling m _ => some m
  | .faulted => none

/-- The name of a drive state. -/
def DriveState.mode : DriveState → DriveMode
  | .idle => .idle
  | .moving _ => .moving
  | .settling _ _ => .settling
  | .faulted => .faulted

/-! The end of a move, and faults (R108 to R111). -/

/-- The end of a move that stopped by itself: the axis check, then the completion (R108). -/
def State.completeMove (s : State) (m : Move) : State × DriveReport :=
  let (t, check) := (s.setStopped .idle).axisCheck m.axis
  (t, .completed m.requester
    { axis := m.axis, kind := m.kind, outcome := m.outcome.getD .reached, contact := m.contact,
      stopPos := t.reportable m.axis m.stopPos,
      finalPos := t.reportable m.axis (some (t.position m.axis)),
      referenced := t.referenced m.axis, check := check })

/-- The stop condition of a move is met: the outcome, the contact and the position are recorded, the
outputs drop, and the drive settles; a settle_time of 0 completes the move at the stop (R107, R108). -/
def State.meetStop (s : State) (m : Move) (outcome : MoveOutcome) (contact : Option Contact)
    (pos : Int) : State × DriveReport :=
  let m' := { m with outcome := some outcome, contact := contact, stopPos := some pos }
  if s.num .settleTime = 0 then s.completeMove m'
  else (s.setStopped (.settling m' s.ticks), .none)

/-- A drive fault: the outputs drop, the record is written, the axis of the ended move is checked, and
the fault is reported to the move's requester (R110). -/
def State.driveFault (s : State) (cause : DriveFault) : State × DriveReport :=
  let m? := s.drive.state.move?
  let record : FaultRecord :=
    { cause := cause, axis := m?.map (·.axis), kind := m?.map (·.kind),
      position := m?.map fun m => s.position m.axis, mono := s.time.mono }
  let t := s.setStopped .faulted
  let t := { t with drive := { t.drive with fault := some record } }
  match m? with
  | none => (t, .faulted none cause none)
  | some m =>
    let (u, check) := t.axisCheck m.axis
    (u, .faulted (some m.requester) cause check)

/-- A move in flight ended with outcome STOPPED: the outputs drop, the axis is checked, and the
completion carries the position as STOP finds it, with the contact that the move may have met before
(R111; notes/assumptions/38.md). -/
def State.stopMove (s : State) (reason : StopReason) : State × DriveReport :=
  match s.drive.state.move? with
  | none => (s, .none)
  | some m =>
    let pos := s.position m.axis
    let (t, check) := (s.setStopped .idle).axisCheck m.axis
    (t, .completed m.requester
      { axis := m.axis, kind := m.kind, outcome := .stopped reason, contact := m.contact,
        stopPos := t.reportable m.axis (some pos), finalPos := none,
        referenced := t.referenced m.axis, check := check })

/-- A FAULTED drive cleared when DRIVE_FAULT is deasserted; the fault record is kept (R111). -/
def State.clearDrive (s : State) : State :=
  if s.drive.state = .faulted ∧ s.level .driveFault = false then
    { s with drive := { s.drive with state := .idle } }
  else s

/-! Move requests (R103, R105, R106). -/

/-- Whether a kind suits an axis (R103). -/
def MoveKind.suits (k : MoveKind) (ax : Axis) : Bool :=
  match k, ax with
  | .toPosition _, _ => true
  | .toContact c _, .reel => decide (c = .surface ∨ c = .bed ∨ c = .reelTop)
  | .toContact _ _, .travel => false
  | .home, .travel => true
  | .home, .reel => false

/-- A kind with its target or payout limit clamped into range (R103). -/
def MoveKind.clamp : MoveKind → MoveKind
  | .toPosition x => .toPosition (clampInt (-1000000) 1000000 x)
  | .toContact c l => .toContact c (clampInt 0 100000 l)
  | .home => .home

/-- Whether a move needs a true position: TO_POSITION, or TO_CONTACT SURFACE or BED (R103). -/
def MoveKind.needsReference : MoveKind → Bool
  | .toPosition _ => true
  | .toContact c _ => decide (c ≠ .reelTop)
  | .home => false

/-- Whether a TRAVEL TO_POSITION is toward a limit that is asserted (R103). -/
def State.towardLimit (s : State) (ax : Axis) (k : MoveKind) : Bool :=
  match ax, k with
  | .travel, .toPosition x =>
    (decide (s.position .travel < x) && s.level .limitFar) ||
    (decide (x < s.position .travel) && s.level .limitNear)
  | _, _ => false

/-- Whether a move is forward or down (R105). -/
def State.moveForward (s : State) (ax : Axis) : MoveKind → Bool
  | .toPosition x => decide (s.position ax < x)
  | .toContact c _ => decide (c ≠ .reelTop)
  | .home => false

/-- The remaining distance of a move; absent where the move runs SLOW throughout (R106). -/
def State.remaining (s : State) (ax : Axis) : MoveKind → Option Int
  | .toPosition x => some (x - s.position ax).natAbs
  | .toContact .reelTop _ => if s.referenced .reel then some (s.position .reel) else none
  | .toContact _ l => some (l - s.position .reel)
  | .home =>
    if s.referenced .travel then some (s.position .travel - s.num .homeX) else none

/-- Whether a move's remaining distance is within the slow zone, or it runs SLOW throughout (R106). -/
def State.inSlowZone (s : State) (ax : Axis) (k : MoveKind) : Bool :=
  match s.remaining ax k with
  | none => true
  | some d => decide (d ≤ s.num ax.slowZone)

/-- The completion of a move that is already complete at its start: the state with the axis
referenced where R100 says so, the outcome and the contact (R105). -/
def State.alreadyComplete (s : State) (ax : Axis) (k : MoveKind) :
    Option (State × MoveOutcome × Option Contact) :=
  match k with
  | .toPosition x => if s.position ax = x then some (s, .reached, none) else none
  | .toContact c l =>
    if s.level c then
      some (if c = .reelTop then s.referenceReel else s, .contact, some c)
    else if c ≠ .reelTop ∧ l ≤ s.position .reel then some (s, .payoutLimit, none)
    else none
  | .home =>
    if s.level .limitNear then some (s.referenceTravel, .contact, some .limitNear) else none

/-- An accepted move: complete at once, or MOVING. The completion carries the cause of the axis check
only while the axis is left UNREFERENCED (R105, R108; notes/assumptions/38.md). The position at acceptance
of a move that references its axis is the one computed from the preset count, which for a HOME can
differ from home_x by the rounding to counts (DESIGN CHOICE, notes/assumptions/42.md). -/
def State.startMove (s : State) (r : MoveRequest) (check : Option CheckCause) (clamped : Bool) :
    State × MoveAnswer :=
  match s.alreadyComplete r.axis r.kind with
  | some (t, outcome, contact) =>
    let pos := t.reportable r.axis (some (t.position r.axis))
    (t, .complete clamped
      { axis := r.axis, kind := r.kind, outcome := outcome, contact := contact, stopPos := pos,
        finalPos := pos, referenced := t.referenced r.axis,
        check := if t.referenced r.axis then none else check })
  | none =>
    let m : Move :=
      { requester := r.requester, axis := r.axis, kind := r.kind, speed := r.speed,
        forward := s.moveForward r.axis r.kind,
        slowPhase := decide (r.speed = .slow) || s.inSlowZone r.axis r.kind,
        peak := s.position r.axis, countAt := s.ticks, phaseAt := s.ticks, contact := none,
        stopPos := none, outcome := none }
    (s.setMoving m, .started clamped)

/-- The drive FAULTED with cause DRIVE because a move is requested while DRIVE_FAULT is asserted;
the refusal is its report (R103, R110). -/
def State.refuseFaulted (s : State) : State :=
  let record : FaultRecord :=
    { cause := .drive, axis := none, kind := none, position := none, mono := s.time.mono }
  let t := s.setStopped .faulted
  { t with drive := { t.drive with fault := some record } }

/-- A move request judged against the lines of R103 in order. -/
def State.requestMove (s : State) (r : MoveRequest) : State × MoveAnswer :=
  if !r.kind.suits r.axis then (s, .invalid)
  else
    match s.drive.state with
    | .moving _ => (s, .busy)
    | .settling _ _ => (s, .busy)
    | .faulted => (s, .faulted)
    | .idle =>
      if s.level .driveFault then (s.refuseFaulted, .faulted)
      else if r.axis = .travel ∧ s.level .reelTop = false then (s, .interlock)
      else
        let (t, check) := s.axisCheck r.axis
        let k := r.kind.clamp
        if k.needsReference && !t.referenced r.axis then (t, .state)
        else if t.towardLimit r.axis k then (t, .state)
        else t.startMove { r with kind := k } check (decide (k ≠ r.kind))

/-! Execution (R106, R107, R109). -/

/-- The outcome when a count change meets the stop condition of a move (R107). -/
def State.countStop (s : State) (m : Move) : Option MoveOutcome :=
  let p := s.position m.axis
  match m.kind with
  | .toPosition x => if (if m.forward then x ≤ p else p ≤ x) then some .reached else none
  | .toContact .reelTop _ => none
  | .toContact _ l => if l ≤ p then some .payoutLimit else none
  | .home => none

/-- The further of two positions in the commanded direction. -/
def Move.further (m : Move) (p : Int) : Int := if m.forward then max m.peak p else min m.peak p

/-- Whether a position has fallen back from the peak by more than 20 mm (R109). -/
def Move.reversed (m : Move) (p : Int) : Bool :=
  if m.forward then decide (20 < m.peak - p) else decide (20 < p - m.peak)

/-- A count change on an axis, as the drive takes it (R106, R107, R109). -/
def State.driveCount (s : State) (ax : Axis) : State × DriveReport :=
  match s.drive.state with
  | .moving m =>
    if m.axis = ax then
      let p := s.position ax
      let m := { m with countAt := s.ticks, peak := m.further p }
      match s.countStop m with
      | some outcome => s.meetStop m outcome none p
      | none =>
        if m.reversed p then (s.setMoving m).driveFault .reverse
        else if !m.slowPhase && s.inSlowZone ax m.kind then
          (s.setMoving { m with slowPhase := true, phaseAt := s.ticks }, .none)
        else (s.setMoving m, .none)
    else (s, .none)
  | _ => (s, .none)

/-- Whether a contact edge faults the move in flight with LIMIT or INTERLOCK (R104, R109). -/
def Move.edgeFault (m : Move) (i : Contact) (level : Bool) : Option DriveFault :=
  match i, level, m.axis with
  | .reelTop, false, .travel => some .interlock
  | .limitFar, true, .travel => if m.forward then some .limit else none
  | .limitNear, true, .travel =>
    if !m.forward && decide (m.kind ≠ .home) then some .limit else none
  | _, _, _ => none

/-- A contact edge on a move that is MOVING: the stop condition it meets (R107). -/
def State.edgeStop (s : State) (m : Move) (i : Contact) (level : Bool) :
    Option (State × DriveReport) :=
  match i, level, m.axis with
  | .surface, true, .reel =>
    match m.kind with
    | .toContact .surface _ => some (s.meetStop m .contact (some .surface) (s.position .reel))
    | _ => none
  | .bed, true, .reel =>
    if m.forward then some (s.meetStop m .contact (some .bed) (s.position .reel)) else none
  | .reelTop, true, .reel =>
    if m.forward then none else some (s.referenceReel.meetStop m .contact (some .reelTop) 0)
  | .limitNear, true, .travel =>
    if m.kind = .home then
      some (s.referenceTravel.meetStop m .contact (some .limitNear) (s.num .homeX))
    else none
  | _, _, _ => none

/-- A reference edge on a move that is SETTLING: it references the axis and leaves the outcome
(R100, R107; notes/assumptions/38.md). -/
def State.settleEdge (s : State) (m : Move) (i : Contact) (level : Bool) : State :=
  match i, level, m.axis with
  | .reelTop, true, .reel => if m.forward then s else s.referenceReel
  | .limitNear, true, .travel => if m.kind = .home then s.referenceTravel else s
  | _, _, _ => s

/-- A subscribed edge, as the drive takes it (R100, R104, R107, R109). -/
def State.driveEdge (s : State) (i : Contact) (level : Bool) : State × DriveReport :=
  if i = .driveFault then
    if level && decide (s.drive.state ≠ .faulted) then s.driveFault .drive else (s, .none)
  else
    match s.drive.state with
    | .idle => (s, .none)
    | .faulted => (s, .none)
    | .settling m _ =>
      match m.edgeFault i level with
      | some cause => s.driveFault cause
      | none => (s.settleEdge m i level, .none)
    | .moving m =>
      match m.edgeFault i level with
      | some cause => s.driveFault cause
      | none =>
        match s.edgeStop m i level with
        | some r => r
        | none => (s, .none)

/-- stall_time has passed with no count change on the moving axis (R109). -/
def State.driveStall (s : State) : State × DriveReport :=
  match s.drive.state with
  | .moving _ => s.driveFault .stall
  | _ => (s, .none)

/-- settle_time has ended (R108). -/
def State.driveSettled (s : State) : State × DriveReport :=
  match s.drive.state with
  | .settling m _ => s.completeMove m
  | _ => (s, .none)

/-- A change of meaning of an axis: UNREFERENCED, and a move in flight on it stopped with reason
SETTING (R101). -/
def State.axisMeaning (s : State) (ax : Axis) : State × DriveReport :=
  let t := s.setReferenced ax false
  match t.drive.state.move? with
  | some m => if m.axis = ax then t.stopMove .setting else (t, .none)
  | none => (t, .none)

/-! The MOTION notice (R113). -/

/-- The MOTION notice of a JOG move's completion. -/
def State.completionNotice (s : State) (c : Completion) : MotionNotice :=
  { event :=
      match c.outcome with
      | .stopped r => .stopped r
      | o => .completed o
    axis := some c.axis, kind := some c.kind, contact := c.contact, stopPos := c.stopPos,
    finalPos := c.finalPos, travelRef := s.drive.travelRef, reelRef := s.drive.reelRef,
    check := c.check, state := s.drive.state.mode, mono := s.time.mono }

/-- The MOTION notice of a fault, from the fault record. R113 has the contact met as optional: a fault's
notice carries none, that of a JOG faulted in SETTLING after its move had met a contact either
(DESIGN CHOICE, notes/assumptions/41.md). -/
def State.faultNotice (s : State) (cause : DriveFault) (check : Option CheckCause) : MotionNotice :=
  let ax := s.drive.fault.bind (·.axis)
  { event := .fault cause, axis := ax, kind := s.drive.fault.bind (·.kind), contact := none,
    stopPos := ax.bind fun a => s.reportable a (s.drive.fault.bind (·.position)),
    finalPos := none, travelRef := s.drive.travelRef, reelRef := s.drive.reelRef, check := check,
    state := s.drive.state.mode, mono := s.time.mono }

end Sys2Proof.Machine
end

