-- ==== Sys2Proof/Machine/RunOps.lean ====
section
/-! DEFINITION. The Run Sequencer: phases, moves, sounding, exposures, holds, ends (chapter 9), with
the writes to the result slots (11.2). One action may lead to the next at once; `runLoop` follows them
until the run waits. -/

namespace Sys2Proof.Machine

open Sys2Proof.Config

/-! The result slots (R172 to R174). -/

/-- The result of a slot, numbered from 1. -/
def RecordMemory.slot (r : RecordMemory) (n : Nat) : Option RunResult :=
  if n = 0 then none else (r.slots[n - 1]?).join

/-- The Record Memory with a slot's content replaced. -/
def RecordMemory.setSlot (r : RecordMemory) (n : Nat) (v : Option RunResult) : RecordMemory :=
  { r with slots := r.slots.set (n - 1) v }

/-- The slot numbers with their results, lowest first. -/
def RecordMemory.numbered (r : RecordMemory) : List (Nat × Option RunResult) :=
  (r.slots.zipIdx 1).map fun p => (p.2, p.1)

/-- The slot with the lowest run number, the lowest-numbered of equals, from candidates in order
(R172). -/
def oldestResult : List (Nat × Option RunResult) → Option (Nat × Nat)
  | [] => none
  | (n, some r) :: rest =>
    match oldestResult rest with
    | none => some (n, r.header.runNumber)
    | some (n', k) =>
      if r.header.runNumber ≤ k then some (n, r.header.runNumber) else some (n', k)
  | (_, none) :: rest => oldestResult rest

/-- The slot a new run is given (R172). -/
def RecordMemory.chooseSlot (r : RecordMemory) : Nat :=
  match r.numbered.find? fun p => p.2.isNone with
  | some p => p.1
  | none => ((oldestResult r.numbered).map (·.1)).getD 1

/-- The state with the result of the run in progress replaced by its image. -/
def State.updateResult (s : State) (f : RunResult → RunResult) : State :=
  match s.recmem.slot s.marker.slot with
  | some r => { s with recmem := s.recmem.setSlot s.marker.slot (some (f r)) }
  | none => s

/-- A vertical record appended to the result of the run in progress (R174). -/
def State.appendVertical (s : State) (v : VertRecord) : State :=
  s.updateResult fun r => { r with verts := r.verts ++ [v] }

/-- A header closed as ABORTED (R148, R149, R165). -/
def ResultHeader.abort (h : ResultHeader) (reason : AbortReason) (endTime : Option RunTime)
    (endStage : Option RunStage) : ResultHeader :=
  { h with
    status := .aborted, abortReason := some reason, endTime := endTime, endStage := endStage,
    meanStage := none, discharge := none, area := none, meanVelocity := none, ratingFlow := none,
    generation := none, deviation := none, interpCount := none,
    flags := { h.flags with poor := false, unsteady := false, order := false } }

/-! What the run reads from its snapshot (R129). -/

/-- A numeric setting of the snapshot. -/
def State.snapNum (s : State) (i : SettingId) : Int :=
  (s.run.snap.map (·.settings.num i)).getD 0

/-- A plan entry of the snapshot, numbered from 1. -/
def State.snapEntry (s : State) (i : Nat) : Option PlanEntry :=
  if i = 0 then none else s.run.snap.bind (·.entries[i - 1]?)

/-- The vertical count of the snapshot's plan. -/
def State.planCount (s : State) : Nat := (s.run.snap.map (·.entries.length)).getD 0

/-- The position of an entry (R114). -/
def PlanEntry.x : PlanEntry → Int
  | .edge x _ _ => x
  | .metered x _ _ _ => x

/-- Whether an entry is METERED. -/
def PlanEntry.isMetered : PlanEntry → Bool
  | .edge _ _ _ => false
  | .metered _ _ _ _ => true

/-- The exposure of an entry in seconds (R114). -/
def PlanEntry.exposure : PlanEntry → Nat
  | .edge _ _ _ => 0
  | .metered _ _ e _ => e

/-- The repeats of an entry (R114). -/
def PlanEntry.repeats : PlanEntry → Nat
  | .edge _ _ _ => 0
  | .metered _ _ _ r => r

/-! Phases and notices (R141, R150). -/

/-- STARTING, TRAVEL, SOUND, SET_POINT, EXPOSE and RETRACT are the working phases (9.3). -/
def Phase.working : Phase → Bool
  | .starting => true
  | .travel => true
  | .sound => true
  | .setPoint => true
  | .expose => true
  | .retract => true
  | .idle => false
  | .home => false
  | .holdRetract => false
  | .hold => false
  | .abortHome => false

/-- The set holds no cause. -/
def HoldCauses.isEmpty (c : HoldCauses) : Bool := !c.host && !c.lockout && !c.motion

/-- A RUN notice of the run in progress, as things stand (R150). -/
def State.runNotice (s : State) (e : RunEvent) : RunNotice :=
  { event := e, runNumber := s.marker.runNumber, slot := s.marker.slot,
    current := some s.run.current, causes := s.run.causes,
    motionCause := if s.run.causes.motion then s.run.motionCause else none,
    mono := s.time.mono, calendar := s.time.calendar }

/-- The run's state replaced by its image. -/
def State.modRun (s : State) (f : RunUnit → RunUnit) : State := { s with run := f s.run }

/-- A change of phase, with its RUN notice (R150). -/
def State.setPhase (s : State) (p : Phase) : State :=
  let t := s.modRun fun r => { r with phase := p }
  if p = s.run.phase then t else t.raise (.run (t.runNotice (.phase s.run.phase p)))

/-- The run in IDLE at its end, with the notice of the header's status and flags (R140, R148). -/
def State.runEnded (s : State) : State :=
  let t := s.modRun fun r =>
    { r with phase := .idle, snap := none, holdAt := none, vertical := .start, exposure := .none }
  match s.recmem.slot s.marker.slot with
  | some r =>
    t.raise (.run (t.runNotice (.ended r.header.status r.header.abortReason r.header.flags)))
  | none => t

/-! Sounding, methods and points (R134, R135). -/

/-- The first method of a chain whose least depth is at most the depth (R134). -/
def chooseFrom (least : Method → Int) (d : Int) : List Method → Option Method
  | [] => none
  | m :: rest => if least m ≤ d then some m else chooseFrom least d rest

/-- The method used at a depth, from the method in effect (R134). -/
def chooseMethod (threeMin twoMin oneMin d : Int) (m : EntryMethod) : Option Method :=
  let least : Method → Int
    | .three => threeMin
    | .two => twoMin
    | .one => oneMin
    | .surface => oneMin
  match m with
  | .auto => chooseFrom least d [.three, .two, .one]
  | .three => chooseFrom least d [.three, .two, .one]
  | .two => chooseFrom least d [.two, .one]
  | .one => chooseFrom least d [.one]
  | .surface => chooseFrom least d [.surface]
  | .default => none

/-- The fractions of a method in the order taken; none stands for the SURFACE point (R135). -/
def Method.fractions : Method → List (Option Nat)
  | .three => [some 800, some 600, some 200]
  | .two => [some 800, some 200]
  | .one => [some 600]
  | .surface => [none]

/-- The flags of a point with none set. -/
def PointFlags.none : PointFlags :=
  { clamped := false, bedStop := false, still := false, fast := false, saturated := false,
    spread := false }

/-- A point placed at a fraction of the depth (R135). -/
def placePoint (surfaceDepth meterHeight electrode surface d : Int) (fraction : Option Nat) : Point :=
  let p : Int :=
    match fraction with
    | some f => roundDiv (d * f) 1000
    | none => surfaceDepth
  let deep := decide (d - meterHeight < p)
  let q := if deep then d - meterHeight else p
  { fraction := fraction, depth := q, target := surface + q + meterHeight - electrode,
    actual := none, repeats := [], velocity := none,
    flags := { PointFlags.none with clamped := deep }, failure := none }

/-! Writing a vertical (R139, R158). -/

/-- The points a vertical record carries: the points taken, with a failed point the last (R138). -/
def Partial.taken (v : Partial) : List Point :=
  if v.pointFailed then v.points.take (v.point + 1) else v.points

/-- The record of the current vertical, its velocities supplied (R139, R158). -/
def verticalRecord (t : Settings) (index : Nat) (e : PlanEntry) (v : Partial) : VertRecord :=
  let x := v.actualX.getD e.x
  let points := v.taken.map (Point.measure t e.exposure)
  { index := index, kind := .metered, planX := e.x, actualX := x,
    depth := if v.failed.isSome then none else v.depth
    method := v.method
    points := points
    velocity :=
      if v.pointFailed then none
      else v.method.bind fun m => measuredMean (t.num .surfaceCoef) m points
    shallow := v.shallow, failed := v.failed, pointFailed := v.pointFailed,
    offset := decide (t.num .positionTolerance < (x - e.x).natAbs), interpolated := false }

/-- The record of an EDGE entry (R128, R139). -/
def edgeRecord (index : Nat) (e : PlanEntry) : VertRecord :=
  { index := index, kind := .edge, planX := e.x, actualX := e.x,
    depth :=
      match e with
      | .edge _ d _ => some d
      | .metered _ _ _ _ => none
    method := none, points := [], velocity := none, shallow := false, failed := none,
    pointFailed := false, offset := false, interpolated := false }

/-- The vertical record written on entering RETRACT, and the second EDGE after the last METERED entry
(R139). -/
def State.writeVertical (s : State) : State :=
  match s.run.snap, s.snapEntry s.run.current with
  | some snap, some e =>
    let t := s.appendVertical (verticalRecord snap.settings s.run.current e s.run.vertical)
    if s.run.current + 1 = s.planCount then
      match s.snapEntry s.planCount with
      | some last => t.appendVertical (edgeRecord s.planCount last)
      | none => t
    else t
  | _, _ => s

/-! Ends (R140, R148). -/

/-- The end stage: the reported stage as it stands, absent when MISSING (R140). -/
def State.endStage (s : State) : Option RunStage :=
  if s.stage.reported.quality = .missing then none
  else s.stage.reported.value.map fun v => { value := v, quality := s.stage.reported.quality }

/-- NOT_HOMED set in a header where it is due. -/
def ResultHeader.markNotHomed (h : ResultHeader) (notHomed : Bool) : ResultHeader :=
  { h with flags := { h.flags with notHomed := h.flags.notHomed || notHomed } }

/-- The marker's active flag cleared (R140, R148, R149). -/
def State.clearMarker (s : State) : State :=
  { s with marker := { s.marker with active := false } }

/-- The end of a run through HOME (R140). -/
def State.endRun (s : State) (notHomed : Bool) : State :=
  let close (r : RunResult) : RunResult :=
    let h := { (r.header.markNotHomed notHomed) with
      endTime := some s.time.runTime, endStage := s.endStage }
    match s.run.snap with
    | some snap => endComputation snap s.rating { r with header := h }
    | none => { r with header := h }
  (s.updateResult close).clearMarker.runEnded

/-- The end of a run as ABORTED (R148). -/
def State.endAborted (s : State) (notHomed : Bool) : State :=
  let close (r : RunResult) : RunResult :=
    { r with
      header := (r.header.markNotHomed notHomed).abort (s.run.abortReason.getD .host)
        (some s.time.runTime) s.endStage }
  (s.updateResult close).clearMarker.runEnded

/-! The interruption of the current vertical (R142). -/

/-- Whether the move in flight is the run's own (R130). -/
def State.runMove (s : State) : Bool :=
  match s.drive.state.move? with
  | some m => decide (m.requester = .run)
  | none => false

/-- The exposure in flight discarded: ROTOR stopped, its count dropped (R138, R142). -/
def State.dropExposure (s : State) : State :=
  match s.run.exposure with
  | .running _ =>
    { s with rotor := s.rotor.stop, run := { s.run with exposure := .none } }
  | _ => { s with run := { s.run with exposure := .none } }

/-- Steps 1 to 3 of R142: the run's move and exposure ended, the partial vertical discarded, and the
current vertical advanced when it was already written. -/
def State.interrupt (s : State) : State :=
  let t := if s.runMove then (s.stopMove .host).1 else s
  t.dropExposure.modRun fun r =>
    { r with
      vertical := .start
      current := if r.phase = .retract then r.current + 1 else r.current }

/-! Actions. -/

/-- What the run does next: enter a phase or a step of one, take a completion, take a motion fault. -/
inductive RunAction where
  | starting | startHome | startNext
  | travel | sound | setPoint | retract | home
  | holdRetract | hold | abortHome | abortTravel
  | completed (c : Completion)
  | fault (cause : MotionCause)
deriving DecidableEq, Repr

/-- The cause recorded for a drive fault (R130). -/
def DriveFault.motion : DriveFault → MotionCause
  | .stall => .stall
  | .reverse => .reverse
  | .drive => .drive
  | .limit => .limit
  | .interlock => .interlock

/-- A move requested for the run, and what follows from the answer (R130). -/
def State.ask (s : State) (ax : Axis) (k : MoveKind) : State × Option RunAction :=
  match s.requestMove { requester := .run, axis := ax, kind := k, speed := .auto } with
  | (t, .started _) => (t, none)
  | (t, .complete _ c) => (t, some (.completed c))
  | (t, .busy) => (t, some (.fault .busy))
  | (t, .faulted) => (t, some (.fault .faulted))
  | (t, .interlock) => (t, some (.fault .interlock))
  | (t, .state) => (t, some (.fault .state))
  | (t, .invalid) => (t, some (.fault .state))

/-- TO_CONTACT requested of the reel with max_payout as its limit (R130). -/
def State.askContact (s : State) (c : Contact) : State × Option RunAction :=
  s.ask .reel (.toContact c (s.snapNum .maxPayout))

/-- The current vertical FAILED (R133). -/
def State.failVertical (s : State) (f : VerticalFailure) : State :=
  s.modRun fun r => { r with vertical := { r.vertical with failed := some f } }

/-- The point being taken replaced by its image. -/
def State.modPoint (s : State) (f : Point → Point) : State :=
  s.modRun fun r =>
    { r with vertical := { r.vertical with points := modifyAt r.vertical.points r.vertical.point f } }

/-- The point being taken fails (R136, R138). -/
def State.failPoint (s : State) (f : PointFailure) : State :=
  (s.modPoint fun p => { p with failure := some f }).modRun fun r =>
    { r with exposure := .none, vertical := { r.vertical with pointFailed := true } }

/-- EXPOSE entered for the point being taken; the exposure waits for the lock (R137). -/
def State.enterExpose (s : State) : State :=
  (s.setPhase .expose).modRun fun r =>
    { r with exposure := .waiting, vertical := { r.vertical with retry := 0 } }

/-- The bed is found: the depth, the method used and its points; SET_POINT or RETRACT follows
(R133 to R135). -/
def State.sounded (s : State) (bed : Int) : State × Option RunAction :=
  let surface := s.run.vertical.surface.getD 0
  let electrode := s.snapNum .surfaceElectrodeHeight
  let d := max 0 (bed - surface + electrode)
  let inEffect :=
    match s.snapEntry s.run.current with
    | some (.metered _ m _ _) => m
    | _ => .default
  match chooseMethod (s.snapNum .threeMin) (s.snapNum .twoMin) (s.snapNum .oneMin) d inEffect with
  | none =>
    (s.modRun fun r =>
      { r with vertical :=
        { r.vertical with bed := some bed, depth := some d, shallow := true } }, some .retract)
  | some m =>
    (s.modRun fun r =>
      { r with vertical :=
        { r.vertical with
          bed := some bed, depth := some d, method := some m, point := 0
          points := m.fractions.map
            (placePoint (s.snapNum .surfaceDepth) (s.snapNum .meterHeight) electrode surface d) } },
      some .setPoint)

/-- A completion in SOUND (R133). -/
def State.soundCompleted (s : State) (c : Completion) : State × Option RunAction :=
  match c.kind with
  | .toContact .surface _ =>
    if c.contact = some .surface then
      (s.modRun fun r => { r with vertical := { r.vertical with surface := c.stopPos } }).askContact
        .bed
    else (s.failVertical .noSurface, some .retract)
  | .toContact .bed _ =>
    if c.contact = some .bed then s.sounded (c.stopPos.getD 0)
    else (s.failVertical .noBed, some .retract)
  | _ => (s, none)

/-- A completion in SET_POINT (R136). -/
def State.pointCompleted (s : State) (c : Completion) : State × Option RunAction :=
  let t := s.modPoint fun p => { p with actual := c.finalPos }
  if c.contact = some .reelTop then (t.failPoint .placement, some .retract)
  else if c.contact = some .bed then
    ((t.modPoint fun p => { p with flags := { p.flags with bedStop := true } }).enterExpose, none)
  else (t.enterExpose, none)

/-- The current vertical advanced after its retraction (R139). -/
def State.advance (s : State) : State × Option RunAction :=
  let t := s.modRun fun r => { r with current := r.current + 1, vertical := .start }
  let metered := ((t.snapEntry t.run.current).map PlanEntry.isMetered).getD false
  (t, some (if metered then .travel else .home))

/-- A completion of the run's move, in the phase that asked for it (R131 to R133, R136, R139, R140,
R143, R148). -/
def State.phaseCompleted (s : State) (c : Completion) : State × Option RunAction :=
  match s.run.phase with
  | .starting =>
    match c.kind with
    | .toContact _ _ => (s, some .startHome)
    | .home => (s, some .startNext)
    | .toPosition _ => (s, none)
  | .travel =>
    (s.modRun fun r => { r with vertical := { r.vertical with actualX := c.finalPos } },
      some .sound)
  | .sound => s.soundCompleted c
  | .setPoint => s.pointCompleted c
  | .retract => s.advance
  | .home => (s.endRun false, none)
  | .holdRetract => (s, some .hold)
  | .abortHome =>
    match c.kind with
    | .home => (s.endAborted false, none)
    | _ => (s, some .abortTravel)
  | .idle => (s, none)
  | .expose => (s, none)
  | .hold => (s, none)

/-- A completion of the run's move: a motion fault where R130 says so, or the phase's own; a STOP is
recorded before an axis left UNREFERENCED (R130; notes/assumptions/40.md). -/
def State.completedAction (s : State) (c : Completion) : State × Option RunAction :=
  if c.outcome = .stopped .host then (s, some (.fault .stopped))
  else if c.outcome = .stopped .setting then (s, some (.fault .setting))
  else if c.referenced = false then (s, some (.fault .reference))
  else s.phaseCompleted c

/-- A motion fault (R130, R140, R142, R143, R148). -/
def State.faultAction (s : State) (cause : MotionCause) : State × Option RunAction :=
  let t := s.modRun fun r => { r with motionCause := some cause }
  let withMotion := t.modRun fun r => { r with causes := { r.causes with motion := true } }
  if s.run.phase.working then (withMotion.interrupt, some .hold)
  else
    match s.run.phase with
    | .holdRetract => (withMotion, some .hold)
    | .home => (t.endRun true, none)
    | .abortHome => (t.endAborted true, none)
    | _ => (s, none)

/-- One action of the run, and the action that follows at once, if any. -/
def State.runAct (s : State) : RunAction → State × Option RunAction
  | .starting =>
    let t := (s.modRun fun r => { r with holdAt := none }).setPhase .starting
    if t.drive.reelRef && t.level .reelTop then (t, some .startHome) else t.askContact .reelTop
  | .startHome => if s.drive.travelRef then (s, some .startNext) else s.ask .travel .home
  | .startNext =>
    let metered := ((s.snapEntry s.run.current).map PlanEntry.isMetered).getD false
    (s, some (if metered then .travel else .home))
  | .travel =>
    let x := ((s.snapEntry s.run.current).map PlanEntry.x).getD 0
    (s.setPhase .travel).ask .travel (.toPosition x)
  | .sound => (s.setPhase .sound).askContact .surface
  | .setPoint =>
    let t := s.setPhase .setPoint
    let target := ((t.run.vertical.points[t.run.vertical.point]?).map (·.target)).getD 0
    t.ask .reel (.toPosition target)
  | .retract => (s.writeVertical.setPhase .retract).askContact .reelTop
  | .home => (s.setPhase .home).ask .travel .home
  | .holdRetract => (s.setPhase .holdRetract).askContact .reelTop
  | .hold =>
    let t := (s.setPhase .hold).modRun fun r => { r with holdAt := some s.time.mono }
    (t, if t.run.causes.isEmpty then some .starting else none)
  | .abortHome =>
    let t := s.setPhase .abortHome
    if t.level .reelTop then (t, some .abortTravel) else t.askContact .reelTop
  | .abortTravel => s.ask .travel .home
  | .completed c => s.completedAction c
  | .fault cause => s.faultAction cause

/-- The actions followed until the run waits; `fuel` bounds their number
(notes/assumptions/26.md). -/
def runLoop : Nat → State → RunAction → State
  | 0, s, _ => s
  | fuel + 1, s, a =>
    match s.runAct a with
    | (t, none) => t
    | (t, some b) => runLoop fuel t b

/-- An action of the run and all that follows from it at once. -/
def State.runDo (s : State) (a : RunAction) : State := runLoop 1000 s a

/-! What reaches the run from outside. -/

/-- A report of the drive, taken by its requester: the run, or the host through a MOTION notice
(R108, R110, R113, R130). -/
def State.report (r : State × DriveReport) : State :=
  match r with
  | (s, .none) => s
  | (s, .completed .run c) => s.runDo (.completed c)
  | (s, .completed .host c) => s.raise (.motion (s.completionNotice c))
  | (s, .faulted (some .run) cause _) => s.runDo (.fault cause.motion)
  | (s, .faulted (some .host) cause check) => s.raise (.motion (s.faultNotice cause check))
  | (s, .faulted none cause check) => s.raise (.motion (s.faultNotice cause check))

/-- A hold cause taken (R141, R142): added in a working phase, HOLD_RETRACT or HOLD; a working phase
is left for HOLD_RETRACT. -/
def State.addHold (s : State) (f : HoldCauses → HoldCauses) : State :=
  let t := s.modRun fun r => { r with causes := f r.causes }
  if s.run.phase.working then t.interrupt.runDo .holdRetract
  else if s.run.phase = .holdRetract ∨ s.run.phase = .hold then t
  else s

/-- A change of lockout handed to the run (R141, R142, R144). -/
def State.lockoutChanged (s : State) (active : Bool) : State :=
  if active then s.addHold fun c => { c with lockout := true }
  else
    let t := s.modRun fun r => { r with causes := { r.causes with lockout := false } }
    match s.run.phase with
    | .holdRetract => t
    | .hold => if t.run.causes.isEmpty then t.runDo .starting else t
    | _ => s

/-- An announcement of a source change, as the run takes it (R138). -/
def State.runSourceChange (s : State) : State :=
  match s.run.exposure with
  | .running _ =>
    let t := s.dropExposure
    if s.run.vertical.retry < 2 then
      t.modRun fun r =>
        { r with exposure := .waiting, vertical := { r.vertical with retry := r.vertical.retry + 1 } }
    else (t.failPoint .clock).runDo .retract
  | _ => s

/-- The exposure started once the multiplier is LOCKED (R137). -/
def State.startExposure (s : State) : State :=
  if s.run.exposure = .waiting ∧ s.lock = .locked then
    { s with
      rotor := s.rotor.begin_ (s.snapNum .rotorSpacing).toNat
      run := { s.run with exposure := .running s.ticks } }
  else s

/-- The exposure's time has expired: the repeat is kept, and the next repeat, point or RETRACT
follows (R137). -/
def State.endExposure (s : State) : State :=
  match s.run.exposure with
  | .running _ =>
    let kept : Repeat := { count := s.rotor.count, saturated := s.rotor.saturated }
    let t := { s with rotor := s.rotor.stop }.modPoint fun p =>
      { p with repeats := p.repeats ++ [kept] }
    let v := t.run.vertical
    let have_ : Nat := ((v.points[v.point]?).map (·.repeats.length)).getD 0
    let wanted : Nat := ((t.snapEntry t.run.current).map PlanEntry.repeats).getD 0
    if have_ < wanted then t.modRun fun r => { r with exposure := .waiting }
    else
      let u := t.modRun fun r => { r with exposure := .none }
      if v.point + 1 < v.points.length then
        (u.modRun fun r => { r with vertical := { r.vertical with point := v.point + 1 } }).runDo
          .setPoint
      else u.runDo .retract
  | _ => s

/-- A DRIVE_FAULT edge taken by the run: a motion fault in a working phase with no run move in flight
(R130). -/
def State.runEdge (s : State) (i : Contact) (level : Bool) : State :=
  if i = .driveFault ∧ level = true ∧ s.run.phase.working = true ∧ s.runMove = false then
    s.runDo (.fault .drive)
  else s

end Sys2Proof.Machine
end

