-- ==== Sys2Proof/Machine/AbortOps.lean ====
section
/-! DEFINITION. The ends of a run that the host, the hold timer or a reset brings about (R144, R147 to
R149). -/

namespace Sys2Proof.Machine

open Sys2Proof.Config

/-- A run in HOLD aborted: at once and without movement with MOTION in the set, through ABORT_HOME
otherwise (R144, R147, R148). -/
def State.abortHeld (s : State) (reason : AbortReason) : State :=
  let t := s.modRun fun r => { r with abortReason := some reason, holdAt := none }
  if s.run.causes.motion then t.endAborted true else t.runDo .abortHome

/-- A run under way aborted by the host: interrupted, then ABORT_HOME (R147). -/
def State.abortActive (s : State) : State :=
  (s.interrupt.modRun fun r => { r with abortReason := some .host }).runDo .abortHome

/-- hold_limit has passed in HOLD (R144). -/
def State.holdExpired (s : State) : State :=
  if s.run.phase = .hold then s.abortHeld .holdLimit else s

/-! Finalisation at a reset (R149). -/

/-- The result of a slot closed as ABORTED with reason POWER, with its RUN notice, which names no current
vertical (R149, R150; notes/assumptions/27.md). -/
def State.finaliseSlot (s : State) (n : Nat) (endTime : Option RunTime) : State :=
  match s.recmem.slot n with
  | none => s
  | some r =>
    let h := r.header.abort .power endTime none
    let t := { s with recmem := s.recmem.setSlot n (some { r with header := h }) }
    t.raise (.run
      { event := .ended h.status h.abortReason h.flags, runNumber := h.runNumber, slot := n,
        current := none, causes := .none, motionCause := none, mono := s.time.mono,
        calendar := s.time.calendar })

/-- Whether a slot's result is RUNNING. -/
def RecordMemory.running (r : RecordMemory) (n : Nat) : Bool :=
  match r.slot n with
  | some v => decide (v.header.status = .running)
  | none => false

/-- Every slot still RUNNING finalised, lowest first (R149). -/
def State.finaliseRunning (s : State) (endTime : Option RunTime) : State :=
  (List.range 8).foldl
    (fun t i => if t.recmem.running (i + 1) then t.finaliseSlot (i + 1) endTime else t) s

/-- The slot that the marker names finalised while its active flag is set, and the flag cleared
(R149). -/
def State.finaliseMarked (s : State) (endTime : Option RunTime) : State :=
  if s.marker.active then (s.finaliseSlot s.marker.slot endTime).clearMarker else s

/-- The highest run number held in any slot, 0 when all are EMPTY (R149). -/
def RecordMemory.highestRun (r : RecordMemory) : Nat :=
  r.slots.foldl (fun n v => max n ((v.map (·.header.runNumber)).getD 0)) 0

end Sys2Proof.Machine
end

