-- ==== Sys2Proof/Machine/WarnOps.lean ====
section
/-! DEFINITION. The Warning Unit: conditions, latching, unlatching, a change of level, the beacon and
the siren (chapter 6), and the grid's answer to a change of storm (R57). -/

namespace Sys2Proof.Machine

open Sys2Proof.Config

/-! The period in effect (R57). -/

/-- The period in effect, from the settings and storm. -/
def State.periodInEffect (s : State) : Nat :=
  if s.storm then s.nat .baseInterval / s.nat .stormDivisor else s.nat .baseInterval

/-- The grid re-aligned when the period in effect has changed (R57). -/
def State.refreshPeriod (s : State) : State :=
  let p := s.periodInEffect
  if p = s.samp.period then s
  else { s with samp := { s.samp with period := p, next := s.time.nextInstant p } }

/-! Beacon and siren (R92 to R94). -/

/-- Whether a pattern holds ON in a slot (R188). -/
def patternOn (pattern : Nat) (slot : Nat) : Bool := pattern.testBit slot

/-- Whether the siren sounds (R94). -/
def State.sounding (s : State) : Bool :=
  reachesLevel (s.nat .sirenLevel) s.warn.current &&
    decide (s.warn.ack.code < s.warn.current.code)

/-- The lines commanded at the start of the present slot (R93, R94). -/
def State.commandSlot (s : State) : State :=
  let l := s.warn.current
  { s with
    outs :=
      { s.outs with
        beacon := patternOn (s.nat l.beacon) s.warn.slot
        siren :=
          match l.siren with
          | some p => s.sounding && patternOn (s.nat p) s.warn.slot
          | none => false } }

/-- SIREN deasserted at once when its condition no longer holds (R94). -/
def State.silence (s : State) : State :=
  if s.sounding then s else { s with outs := { s.outs with siren := false } }

/-- A new cadence slot (R92). -/
def State.startSlot (s : State) (slot : Nat) : State :=
  { s with warn := { s.warn with slot := slot, slotAt := s.ticks } }.commandSlot

/-! Conditions (R84). -/

/-- What the Warning Unit is handed for a sample (R83). -/
structure WarnSample where
  value : Option Int
  quality : StageQuality
  rate : Option Int
  flow : Option Int
deriving DecidableEq, Repr

/-- A kind is met: used, its value present and at or above the threshold (R84). -/
def meetsOn (on value : Option Int) : Bool :=
  match on, value with
  | some o, some v => decide (o ≤ v)
  | _, _ => false

/-- A kind counts as below: unused, or its value absent, or below the exit threshold (R84). -/
def belowExit (on : Option Int) (hyst : Int) (value : Option Int) : Bool :=
  match on, value with
  | none, _ => true
  | some _, none => true
  | some o, some v => decide (v < o - hyst)

/-- The kinds of a level that a sample meets (R84). -/
def LevelSettings.met (l : LevelSettings) (w : WarnSample) : Kinds :=
  { stage := meetsOn l.stageOn w.value, rise := meetsOn l.riseOn w.rate,
    flow := meetsOn l.flowOn w.flow }

/-- Whether any kind is met. -/
def Kinds.any (k : Kinds) : Bool := k.stage || k.rise || k.flow

/-- The off-condition of a level (R84). -/
def LevelSettings.offCondition (l : LevelSettings) (w : WarnSample) : Bool :=
  belowExit l.stageOn l.stageHyst w.value && belowExit l.riseOn l.riseHyst w.rate &&
    belowExit l.flowOn l.flowHyst w.flow

/-! Latching and unlatching (R85, R86). -/

/-- The entry counter moved at an evaluation (R85). -/
def LevelCell.moveEntry (c : LevelCell) (l : LevelSettings) (w : WarnSample) : LevelCell :=
  if l.enabled && !c.latched then
    { c with entry := if (l.met w).any then min 10 (c.entry + 1) else 0 }
  else c

/-- Whether a clear level has reached its n_on (R85). -/
def LevelCell.reached (c : LevelCell) (l : LevelSettings) : Bool :=
  l.enabled && !c.latched && decide (l.nOn ≤ c.entry)

/-- A level latched when asked and enabled, the counters of a latched level at 0 (R85). -/
def LevelCell.latchIf (c : LevelCell) (l : LevelSettings) (asked : Bool) : LevelCell :=
  if c.latched || (asked && l.enabled) then { latched := true, entry := 0, exit := 0 } else c

/-- The exit counter of the current level moved, and the level unlatched at its n_off (R86). -/
def LevelCell.moveExit (c : LevelCell) (l : LevelSettings) (w : WarnSample) : LevelCell :=
  let e := if l.offCondition w then min 20 (c.exit + 1) else 0
  if l.nOff ≤ e then .clear else { c with exit := e }

/-- The levels after a latching or unlatching evaluation, and the kinds met by the level that latched
(R85, R86, R88). -/
def WarningUnit.evaluate (u : WarningUnit) (t : Settings) (w : WarnSample) : WarningUnit × Kinds :=
  let a := u.watch.moveEntry t.watch w
  let b := u.warning.moveEntry t.warning w
  let c := u.severe.moveEntry t.severe w
  let noKinds : Kinds := { stage := false, rise := false, flow := false }
  if c.reached t.severe then
    ({ u with
        watch := a.latchIf t.watch true, warning := b.latchIf t.warning true,
        severe := c.latchIf t.severe true }, t.severe.met w)
  else if b.reached t.warning then
    ({ u with
        watch := a.latchIf t.watch true, warning := b.latchIf t.warning true,
        severe := c.latchIf t.severe false }, t.warning.met w)
  else if a.reached t.watch then
    ({ u with
        watch := a.latchIf t.watch true, warning := b.latchIf t.warning false,
        severe := c.latchIf t.severe false }, t.watch.met w)
  else
    let v := { u with watch := a, warning := b, severe := c }
    match u.current with
    | .normal => (v, noKinds)
    | .watch => ({ v with watch := a.moveExit t.watch w }, noKinds)
    | .warning => ({ v with warning := b.moveExit t.warning w }, noKinds)
    | .severe => ({ v with severe := c.moveExit t.severe w }, noKinds)

/-! A change of level (R87, R88). -/

/-- What a change of current level brings about, the latches being changed already (R87): the
acknowledged level, the cadence, storm, lockout and the LEVEL notice, in this order
(notes/assumptions/16.md). -/
def State.levelChanged (s : State) (old : Level) (cause : LevelCause) (met : Kinds)
    (w : Option WarnSample) : State :=
  let new := s.warn.current
  if new = old then s
  else
    let t := { s with warn := { s.warn with ack := s.warn.ack.lower new } }
    let t := t.startSlot 0
    let t := t.refreshPeriod
    let before := reachesLevel (t.nat .lockoutLevel) old
    let t := if before = t.lockout then t else t.lockoutChanged t.lockout
    t.raise (.level
      { from_ := old, to_ := new, peak := old.higher new, cause := cause, met := met,
        stage := w.bind (·.value), quality := w.map (·.quality), rate := w.bind (·.rate),
        flow := w.bind (·.flow), ack := t.warn.ack, storm := t.storm, lockout := t.lockout,
        mono := t.time.mono, calendar := t.time.calendar })

/-- The evaluation of a formed sample; HELD and MISSING change nothing (R83). -/
def State.evaluate (s : State) (w : WarnSample) : State :=
  match w.quality with
  | .held => s
  | .missing => s
  | _ =>
    let (u, met) := s.warn.evaluate s.settings w
    { s with warn := u }.levelChanged s.warn.current .evaluation met (some w)

/-! Reconciliation at a change of the enabled levels (R89, R97). -/

/-- Whether each level is enabled (R80). -/
structure EnabledLevels where
  watch : Bool
  warning : Bool
  severe : Bool
deriving DecidableEq, Repr

/-- The enabled levels under a copy of the settings (R80). -/
def Settings.enabledLevels (t : Settings) : EnabledLevels :=
  { watch := t.watch.enabled, warning := t.warning.enabled, severe := t.severe.enabled }

/-- The counters of a level at 0 when its enabled state changed (R89). -/
def LevelCell.resetIf (c : LevelCell) (changed : Bool) : LevelCell :=
  if changed then { c with entry := 0, exit := 0 } else c

/-- Steps 1 to 4 of R89 on the levels. -/
def WarningUnit.reconcile (u : WarningUnit) (was now : EnabledLevels) : WarningUnit :=
  let a := { u.watch with latched := u.watch.latched && now.watch }
  let b := { u.warning with latched := u.warning.latched && now.warning }
  let c := { u.severe with latched := u.severe.latched && now.severe }
  let current := { u with watch := a, warning := b, severe := c }.current
  let a := { a with latched := a.latched || (now.watch && decide (1 < current.code)) }
  let b := { b with latched := b.latched || (now.warning && decide (2 < current.code)) }
  let a := a.resetIf (was.watch != now.watch)
  let b := b.resetIf (was.warning != now.warning)
  let c := c.resetIf (was.severe != now.severe)
  let v := { u with watch := a, warning := b, severe := c }
  if current = u.current then v
  else
    match current with
    | .normal => v
    | .watch => { v with watch := { a with exit := 0 } }
    | .warning => { v with warning := { b with exit := 0 } }
    | .severe => { v with severe := { c with exit := 0 } }

/-- The latches reconciled when the set of enabled levels has changed (R89). -/
def State.reconcile (s : State) (was : EnabledLevels) : State :=
  let now := s.settings.enabledLevels
  if was = now then s
  else
    { s with warn := s.warn.reconcile was now }.levelChanged s.warn.current .setting
      { stage := false, rise := false, flow := false } none

end Sys2Proof.Machine
end

