-- ==== Sys2Proof/Machine/Flags.lean ====
section
/-! DEFINITION. Flags and states judged from a sample: range clamping, channel health, disagreement,
the reported stage (R35 to R39, R47 to R52). -/

namespace Sys2Proof.Machine

open Sys2Proof.Config

/-! The level of an output pin (R34). -/

/-- Whether a line is high when it is asserted or not, under a polarity setting: NORMAL 0, INVERTED 1
(R34). -/
def pinHigh (polarity : Nat) (asserted : Bool) : Bool := asserted != decide (polarity = 1)

/-- Whether the SIREN pin is high; an unpowered pin is not driven (R34). -/
def State.sirenHigh (s : State) : Bool := s.powered && pinHigh (s.nat .sirenPolarity) s.outs.siren

/-- Whether the BEACON pin is high; an unpowered pin is not driven (R34). -/
def State.beaconHigh (s : State) : Bool := s.powered && pinHigh (s.nat .beaconPolarity) s.outs.beacon

/-! Stages (R35, R37 to R39). -/

/-- A stage clamped to its range, and whether it was clamped (R39). -/
def clampStage (x : Int) : Int × Bool :=
  let y := clampInt stageMin stageMax x
  (y, decide (y ≠ x))

/-- The counts per revolution of the float encoder (R24, 3.1). -/
def State.floatCpr (s : State) : Nat := s.stage.linesCopy.toNat * s.float.mult

/-- The float's travel in mm for a count, with the present circumference and cpr (R35). -/
def State.shaftTravel (s : State) (count : Int) : Int :=
  roundDiv (count * s.num .floatCircumference) (s.num .floatLines * s.float.mult * 1000)

/-- The shaft stage for a count, clamped (R35, R39). -/
def State.shaftStage (s : State) (count : Int) : Int × Bool :=
  clampStage (s.stage.shaftOffset + s.shaftTravel count)

/-- The sensor frequency in cHz of a completed pair (R37). -/
def pressureFrequency (n b : Nat) : Int := roundDiv (n * 100 * fastHz) b

/-- The rise above the zero reading in mm for a frequency (R38). -/
def State.pressureRise (s : State) (f : Int) : Int :=
  roundDiv (s.num .pressureGaugeFactor * (s.num .pressureF0 * s.num .pressureF0 - f * f))
    10000000000

/-- The pressure stage for a frequency, clamped (R38, R39). -/
def State.pressureStage (s : State) (f : Int) : Int × Bool :=
  clampStage (s.stage.pressOffset + s.pressureRise f)

/-- Whether a frequency lies within the limits (R38). -/
def State.frequencyAccepted (s : State) (f : Int) : Bool :=
  decide (s.num .pressureFMin ≤ f) && decide (f ≤ s.num .pressureFMax)

/-! Health (R47, R48). -/

/-- The shaft state after the judgement of a capture (R47). -/
def ShaftState.judge (st : ShaftState) (c : Capture) : ShaftState :=
  let phase := decide (3 ≤ c.tally)
  match st with
  | .healthy =>
    if !c.setAside && (phase || c.saturated) then .faulted phase c.saturated else .healthy
  | other => other

/-- The pressure state and counter after a sample whose value is present, or absent with a cause
(R48). -/
def PressState.judge (st : PressState) (count : Nat) (absent : Option PressCause) :
    PressState × Nat :=
  match st, absent with
  | .healthy, some c => if 3 ≤ count + 1 then (.faulted c, 0) else (.healthy, count + 1)
  | .healthy, none => (.healthy, 0)
  | .faulted c, none => if 3 ≤ count + 1 then (.healthy, 0) else (.faulted c, count + 1)
  | .faulted c, some _ => (.faulted c, 0)

/-- The disagreement state and counter after an evaluation (R50). -/
def judgeDisagreement (set : Bool) (count : Nat) (disagrees : Bool) : Bool × Nat :=
  if set = disagrees then (set, 0)
  else if 3 ≤ count + 1 then (!set, 0)
  else (set, count + 1)

/-! The reported stage (R52). -/

/-- The value of a channel that is HEALTHY with its value present. -/
def healthyValue (healthy : Bool) (v : Option Int) : Option Int := if healthy then v else none

/-- The selection of the reported stage (R52). -/
def selectStage (primary check : Option Int) (disagree : Bool) (last : Option Int) :
    Option Int × StageQuality :=
  match primary, check, last with
  | some v, _, _ => (some v, if disagree then .differs else .good)
  | none, some v, _ => (some v, .substituted)
  | none, none, some v => (some v, .held)
  | none, none, none => (none, .missing)

/-! The SENSOR notice (R54). -/

/-- A SENSOR notice of the Stage Unit as it stands. -/
def State.sensorNotice (s : State) (changed : SensorItems) (shaft press : Option Int) : Notice :=
  .sensor
    { changed := changed, shaft := s.stage.shaft, press := s.stage.press,
      disagree := s.stage.disagree, shaftValue := shaft, pressValue := press,
      mono := s.time.mono }

/-- The shaft state replaced, with a SENSOR notice at a change (R54). -/
def State.setShaft (s : State) (st : ShaftState) (shaft press : Option Int) : State :=
  let t := { s with stage := { s.stage with shaft := st } }
  if st = s.stage.shaft then t
  else t.raise (t.sensorNotice { shaft := true, press := false, disagree := false } shaft press)

/-- The pressure state and counter replaced, with a SENSOR notice at a change of state (R54). -/
def State.setPress (s : State) (st : PressState) (count : Nat) (shaft press : Option Int) : State :=
  let t := { s with stage := { s.stage with press := st, pressCount := count } }
  if st = s.stage.press then t
  else t.raise (t.sensorNotice { shaft := false, press := true, disagree := false } shaft press)

/-- The disagreement state and counter replaced, with a SENSOR notice at a change of state (R54). -/
def State.setDisagree (s : State) (d : Bool) (count : Nat) (shaft press : Option Int) : State :=
  let t := { s with stage := { s.stage with disagree := d, disagreeCount := count } }
  if d = s.stage.disagree then t
  else t.raise (t.sensorNotice { shaft := false, press := false, disagree := true } shaft press)

end Sys2Proof.Machine
end

