-- ==== Sys2Proof/Machine/SampleOps.lean ====
section
/-! DEFINITION. The formation of a sample: the Stage Unit's part, history, rate, discharge,
evaluation and interval record (R43, R44, R62 to R67, R169 to R171, R179). -/

namespace Sys2Proof.Machine

open Sys2Proof.Config

/-! The Stage Unit's part (R44). -/

/-- The pressure value of a sample from the measurement's outcome: the value, whether it was clamped,
and the cause of its absence (R38). -/
def State.pressureValue (s : State) (o : Measurement) : Option Int × Bool × Option PressCause :=
  match o with
  | .failed c => (none, false, some c)
  | .pair n b =>
    let f := pressureFrequency n b
    if s.frequencyAccepted f then
      let (v, clamped) := s.pressureStage f
      (some v, clamped, none)
    else (none, false, some .range)

/-- A completed measurement kept (R37). -/
def State.keepMeasurement (s : State) (o : Measurement) : State :=
  match o with
  | .failed _ => s
  | .pair n b =>
    { s with
      stage :=
        { s.stage with
          meas := some { freq := pressureFrequency n b, n := n, mono := s.time.mono } } }

/-- The disagreement evaluation of step 4, made only when both channels are HEALTHY with values
(R50). -/
def State.evaluateDisagreement (s : State) (shaft press : Option Int) : State :=
  match healthyValue (decide (s.stage.shaft = .healthy)) shaft,
    healthyValue (decide (s.stage.press = .healthy)) press with
  | some a, some b =>
    let disagrees := decide (s.num .disagreeTolerance < (a - b).natAbs)
    let (d, n) := judgeDisagreement s.stage.disagree s.stage.disagreeCount disagrees
    s.setDisagree d n shaft press
  | _, _ => s

/-- The selection of step 5: the reported stage and the last value (R52, R53). -/
def State.selectReported (s : State) (shaft press : Option Int) (mono : Nat) : State :=
  let a := healthyValue (decide (s.stage.shaft = .healthy)) shaft
  let b := healthyValue (decide (s.stage.press = .healthy)) press
  let (v, q) :=
    if s.nat .stagePrimary = 0 then selectStage a b s.stage.disagree s.stage.lastValue
    else selectStage b a s.stage.disagree s.stage.lastValue
  { s with
    stage :=
      { s.stage with
        reported := { value := v, quality := q, mono := some mono }
        lastValue := v.orElse fun _ => s.stage.lastValue } }

/-- The Stage Unit's work at a formation, in the order of R44, and what it hands over (R53). -/
def State.formStage (s : State) (f : Forming) (o : Measurement) : State × StageItems :=
  let s := s.keepMeasurement o
  let shaft :=
    if s.stage.shaft = .unreferenced then none else some (s.shaftStage f.capture.count)
  let (press, pressClamped, absent) := s.pressureValue o
  let shaftValue := shaft.map (·.1)
  let s := s.setShaft (s.stage.shaft.judge f.capture) shaftValue press
  let (st, n) := s.stage.press.judge s.stage.pressCount absent
  let s := s.setPress st n shaftValue press
  let s := s.evaluateDisagreement shaftValue press
  let s := s.selectReported shaftValue press f.mono
  (s,
    { value := s.stage.reported.value, quality := s.stage.reported.quality, shaft := shaftValue,
      press := press, pressAbsent := absent, shaftState := s.stage.shaft,
      pressState := s.stage.press, slip := f.capture.slip,
      range := (shaft.map (·.2)).getD false || pressClamped || decide (absent = some .range),
      differs := s.stage.disagree })

/-! History and rate (R66, R67). -/

/-- Whether a quality is appended to the history (R66). -/
def StageQuality.appended : StageQuality → Bool
  | .good => true
  | .differs => true
  | .substituted => true
  | .held => false
  | .missing => false

/-- A pair appended as the newest, the oldest removed beyond 64 (R66). -/
def appendHistory (h : List (Nat × Int)) (e : Nat × Int) : List (Nat × Int) :=
  let l := h ++ [e]
  l.drop (l.length - historySize)

/-- The rate of rise at the newest entry, over a window (R67). -/
def rateOfRise (window : Int) (h : List (Nat × Int)) : Option Int :=
  match h.getLast? with
  | none => none
  | some (tNow, hNow) =>
    match h.find? fun e => decide ((tNow : Int) - window ≤ e.1) with
    | none => none
    | some (tRef, hRef) =>
      let span : Int := (tNow : Int) - tRef
      if span ≤ 0 ∨ 2 * span < window then none
      else some (clampInt (-99999) 99999 (roundDiv ((hNow - hRef) * 3600) span))

/-- Steps 2 and 3 of a formation: the sample appended when its quality allows, and its rate (R64). -/
def State.formRate (s : State) (f : Forming) (i : StageItems) : State :=
  match i.quality.appended, i.value with
  | true, some v =>
    let h := appendHistory s.history (f.mono, v)
    { s with
      history := h, samp := { s.samp with rate := rateOfRise (s.num .riseWindow) h } }
  | _, _ => { s with samp := { s.samp with rate := none } }

/-! The interval region (R169, R170, R179). -/

/-- The lowest number held (R169). -/
def RecordMemory.oldest (r : RecordMemory) : Option Nat := r.recs.head?.map (·.seq)

/-- The highest number held (R169). -/
def RecordMemory.newest (r : RecordMemory) : Option Nat := r.recs.getLast?.map (·.seq)

/-- An ARCHIVE notice of the Record Memory as it stands, a cursor at END as next (R175, R179). -/
def State.archiveNotice (s : State) (renumbered : Bool) (skipped : Nat) : Notice :=
  .archive
    { renumbered := renumbered, skipped := skipped,
      cursor := s.recmem.cursor.getD s.recmem.next, oldest := s.recmem.oldest,
      newest := s.recmem.newest, mono := s.time.mono }

/-- An interval record written: renumbering when next has passed its limit, otherwise appended with
the oldest removed from a full region and the cursor moved from under the removal (R169, R170,
R179; notes/assumptions/19.md). -/
def State.writeInterval (s : State) (rec_ : IntervalRecord) : State :=
  let r := s.recmem
  if max32 < r.next then
    let t :=
      { s with
        recmem :=
          { r with
            recs := [{ rec_ with seq := 0 }], next := 1, cursor := none,
            overrun := r.overrun || r.cursor.isSome } }
    t.raise (t.archiveNotice true (if r.cursor.isSome then 1 else 0))
  else
    let full := decide (archiveSize ≤ r.recs.length)
    let kept := if full then r.recs.tail else r.recs
    let recs := kept ++ [{ rec_ with seq := r.next }]
    let lost := full && r.cursor.isSome && decide (r.cursor = r.oldest)
    let r' := { r with recs := recs, next := r.next + 1 }
    if lost then
      let t := { s with recmem := { r' with cursor := r'.oldest, overrun := true } }
      t.raise (t.archiveNotice false 1)
    else { s with recmem := r' }

/-! Formation (R64, R65). -/

/-- The contents handed to the Record Memory at step 6 (R65). -/
def State.intervalContents (s : State) (f : Forming) (i : StageItems) (l : Lookup) :
    IntervalRecord :=
  { seq := 0, calendar := f.calendar, mono := f.mono,
    timeQuality := if f.calendar.isNone then .unset else s.time.quality
    stage := i.value, quality := i.quality, shaft := i.shaft, press := i.press, flow := l.flow,
    generation := l.generation, level := s.warn.current, rate := s.samp.rate, period := f.period,
    slip := i.slip, range := i.range, storm := s.storm, differs := i.differs,
    below := decide (l.flag = .below), above := decide (l.flag = .above) }

/-- The discharge of a sample: looked up when its value is present (R64 step 4). -/
def State.sampleLookup (s : State) (i : StageItems) : Lookup :=
  match i.value with
  | some v => s.rating.lookup v
  | none => { flow := none, flag := .none, generation := none }

/-- The outcome of the measurement handed to the Sampling Unit: in FORMING it forms the sample, in
the order of R64. -/
def State.formSample (s : State) (o : Measurement) : State :=
  match s.samp.forming with
  | none => s
  | some f =>
    let (s, i) := s.formStage f o
    let s := s.formRate f i
    let l := s.sampleLookup i
    let s := s.evaluate
      { value := i.value, quality := i.quality, rate := s.samp.rate, flow := l.flow }
    let s := s.writeInterval (s.intervalContents f i l)
    { s with samp := { s.samp with forming := none } }

/-! The grid instant (R43, R62, R63). -/

/-- The shaft capture: FLOAT read and cleared, the slip flag taken (R43). -/
def State.takeCapture (s : State) : State × Capture :=
  ({ s with float := s.float.clear, index := { s.index with slip := false } },
    { count := s.float.count, tally := s.float.tally, saturated := s.float.saturated,
      slip := s.index.slip, setAside := false })

/-- A pressure measurement requested (R27). -/
def State.requestPressure (s : State) : State :=
  match s.lock with
  | .locked => { s with press := .waiting (s.nat .pressureCycles) s.ticks }
  | .unlocked _ => s.formSample (.failed .clock)

/-- The grid time has reached the next instant: a sample is started in IDLE, and the instant is passed
over in FORMING; the next instant is computed anew (R59, R62, R63). -/
def State.gridInstant (s : State) : State :=
  if s.samp.next ≠ some s.time.gridTime then s
  else
    let next := s.time.nextInstant s.samp.period
    match s.samp.forming with
    | some _ => { s with samp := { s.samp with next := next } }
    | none =>
      let (t, c) := s.takeCapture
      let f : Forming :=
        { mono := s.time.mono, calendar := s.time.calendar, period := s.samp.period, capture := c }
      { t with samp := { t.samp with forming := some f, next := next } }.requestPressure

/-- A measurement in flight failed (R28). -/
def State.failPressure (s : State) (cause : PressCause) : State :=
  if s.press.inFlight then { s with press := .idle }.formSample (.failed cause) else s

end Sys2Proof.Machine
end

