-- ==== Sys2Proof/Machine/ClockOps.lean ====
section
/-! DEFINITION. The Timebase Unit at work: changes of source, the crystal monitor, switches and time
steps (R5 to R17, R60). -/

namespace Sys2Proof.Machine

open Sys2Proof.Config

/-- A change of active source announced: a measurement in flight fails, then an exposure in flight is
interrupted; no receiver is powered during an outage (R11, R28, R138; notes/assumptions/15.md). -/
def State.announce (s : State) : State :=
  if s.powered then (s.failPressure .clock).runSourceChange else s

/-- A new active source: the multiplier goes UNLOCKED and the change is announced (R5, R11). -/
def State.changeSource (s : State) (t : Timebase) : State :=
  { s with time := t, lock := if s.powered then .unlocked s.ticks else s.lock }.announce

/-- A CLOCK notice (R17). -/
def State.raiseClock (s : State) (cause : ClockCause) : State :=
  s.raise (.clock
    { cause := cause, source := s.time.source, clockFail := s.time.clockFail, mono := s.time.mono,
      calendar := s.time.calendar })

/-- Whether a window's crystal count lies in the accepted band (R6). -/
def goodWindow (count : Nat) : Bool := decide (windowLow ≤ count) && decide (count ≤ windowHigh)

/-- The monitor stopped with RC the active source: counters and kept counts cleared (R6, R7, R8). -/
def Timebase.toRc (t : Timebase) : Timebase :=
  { t with source := .rc, pending := none, bad := 0, recent := [] }

/-- The shortfall of two bad windows (R7). -/
def shortfall (recent : List Nat) : Nat := twoWindows - recent.sum

/-- The counts of one second event (R13). -/
def State.countSecond (s : State) : State := { s with time := s.time.second }

/-- The second event, handed to the Sampling Unit, which checks the grid against the times after it
(R13, R59). -/
def State.second (s : State) : State := s.countSecond.onMain State.gridInstant

/-- Ticks added to the sub-second count, at most one second's worth, with the second event of a wrap
(R4, R7, R13). -/
def State.addTicks (s : State) (n : Nat) : State :=
  if ticksPerSecond ≤ s.time.subSecond + n then
    { s with time := { s.time with subSecond := s.time.subSecond + n - ticksPerSecond } }.second
  else { s with time := { s.time with subSecond := s.time.subSecond + n } }

/-- A window closes while CRYSTAL is active; the second event of the correction comes before the change
of source (R6, R7). -/
def State.closeOnCrystal (s : State) (count : Nat) : State :=
  let recent := count :: s.time.recent.take 1
  let bad := if goodWindow count then 0 else s.time.bad + 1
  if badWindows ≤ bad then
    let t := s.addTicks (shortfall recent)
    (t.changeSource { t.time.toRc with clockFail := true }).raiseClock .fail
  else { s with time := { s.time with bad := bad, recent := recent } }

/-- A window closes while a switch to CRYSTAL is pending (R6, R9, R10). -/
def State.closeOnSwitch (s : State) (p : PendingSwitch) (count : Nat) : State :=
  let recent := count :: s.time.recent.take 1
  let good := if goodWindow count then p.good + 1 else 0
  let closed := p.closed + 1
  if goodWindows ≤ good then
    (s.changeSource
      { s.time with
        source := .crystal, pending := none, clockFail := false, bad := 0, recent := recent }).raiseClock
      .switched
  else if switchWindows ≤ closed then
    { s with time := { s.time.toRc with clockFail := true } }.raiseClock .failed
  else
    { s with
      time := { s.time with pending := some { good := good, closed := closed }, recent := recent } }

/-- A window of the crystal monitor closes; a stopped monitor has no window (R6). -/
def State.closeWindow (s : State) (count : Nat) : State :=
  match s.time.source, s.time.pending with
  | .crystal, _ => s.closeOnCrystal count
  | .rc, some p => s.closeOnSwitch p count
  | .rc, none => s

/-- The multiplier LOCKED (R5). -/
def State.locks (s : State) : State := { s with lock := .locked }

end Sys2Proof.Machine
end

