-- ==== Sys2Proof/Machine/InputOps.lean ====
section
/-! DEFINITION. The field wiring at work: transitions, edges and contacts, as the blocks take them
(chapter 2). -/

namespace Sys2Proof.Machine

open Sys2Proof.Config

/-! Quadrature and pulses. -/

/-- The axis a channel belongs to (R99). -/
def chanAxis : Chan → Option Axis
  | .float => none
  | .travel => some .travel
  | .reel => some .reel

/-- An observation of a channel's pair; a count change on an axis reaches the drive (R20, R107). -/
def State.observePair (s : State) (ch : Chan) (a b : Bool) : State :=
  let (q, changed) := (s.quad ch).observe a b
  let t := s.setQuad ch q
  match chanAxis ch with
  | none => t
  | some ax => if changed && s.powered then State.report (t.driveCount ax) else t

/-- A rising edge of FLOAT_I (R24, R25; notes/assumptions/12.md). -/
def State.floatIndex (s : State) : State :=
  let (q, ix) :=
    indexEdge (s.nat .floatIndexMode) (s.num .slipTolerance) s.floatCpr s.float s.index
  { s with float := q, index := ix }

/-- A rising edge of ROTOR now (R26). -/
def State.rotorPulse (s : State) : State := { s with rotor := s.rotor.edge s.ticks }

/-- A rising edge of PRESSURE that finds counter B at `b` (R27). -/
def State.pressurePulse (s : State) (b : Nat) : State :=
  match s.press.edge b with
  | (p, none) => { s with press := p }
  | (p, some (n, b)) =>
    if b = 0 then s else { s with press := p }.formSample (.pair n b)

/-- The N-th edge after the starting edge, with counter B at `b` (R27; notes/assumptions/6.md). -/
def State.pressureDone (s : State) (b : Nat) : State :=
  match s.press with
  | .measuring n _ _ _ =>
    if b = 0 then s else { s with press := .idle }.formSample (.pair n b)
  | .idle => s
  | .waiting _ _ => s

/-! Contacts (R29 to R31). -/

/-- Whether the drive and the run receive the edges of an input (R30). -/
def subscribed : Contact → Bool
  | .door => false
  | .spare => false
  | .surface => true
  | .bed => true
  | .reelTop => true
  | .limitNear => true
  | .limitFar => true
  | .driveFault => true

/-- A contact input replaced by its image. -/
def State.modContact (s : State) (i : Contact) (f : ContactLine → ContactLine) : State :=
  { s with contacts := s.contacts.set i (f (s.contacts.get i)) }

/-- The inputs captured with their notice enabled (R31). -/
def Contacts.noticed (c : Contacts) : LineSet :=
  .build fun i => (c.get i).captured && (c.get i).notice

/-- An edge captured for the host (R31). -/
def State.capture (s : State) (i : Contact) (level : Bool) : State :=
  let l := s.contacts.get i
  if l.armed && (level != l.falling) then
    let t := s.modContact i fun l => { l with captured := true }
    if l.notice then t.raise (.line t.contacts.noticed) else t
  else s

/-- An edge of a debounced level: the drive, the run and the capture take it (R29 to R31;
notes/assumptions/15.md). -/
def State.contactEdge (s : State) (i : Contact) (level : Bool) : State :=
  let t := s.modContact i fun l => { l with level := level, since := none }
  let u := if subscribed i then (State.report (t.driveEdge i level)).runEdge i level else t
  u.capture i level

/-- A raw change of a contact input (R29). -/
def State.rawChange (s : State) (i : Contact) (raw : Bool) : State :=
  let l := s.contacts.get i
  if raw = l.raw then s
  else
    let t := s.modContact i fun l => { l with raw := raw }
    if !s.powered then t
    else if raw = l.level then t.modContact i fun l => { l with since := none }
    else if s.num (debounceSetting i) = 0 then t.contactEdge i raw
    else t.modContact i fun l => { l with since := some s.ticks }

/-- The debounce interval in progress ends with an edge (R29). -/
def State.debounced (s : State) (i : Contact) : State :=
  match (s.contacts.get i).since with
  | some _ => s.contactEdge i (s.contacts.get i).raw
  | none => s

/-- The edge of an interval whose debounce time, as set now, has passed (R29). -/
def State.debounceIfDue (s : State) (i : Contact) : State :=
  match (s.contacts.get i).since with
  | some t => if t + msTicks (s.nat (debounceSetting i)) ≤ s.ticks then s.debounced i else s
  | none => s

end Sys2Proof.Machine
end

