-- ==== Sys2Proof/Machine/TickOps.lean ====
section
/-! DEFINITION. One tick of the active source: the sub-second count, and the timers that fall due
(R4, R13, R59; notes/assumptions/2.md). -/

namespace Sys2Proof.Machine

open Sys2Proof.Config

/-! The timers of the main domain. -/

/-- The relock interval ends 5 ms after the multiplier went UNLOCKED (R5). -/
def State.relockIfDue (s : State) : State :=
  match s.lock with
  | .unlocked since => if since + msTicks relockMs ≤ s.ticks then s.locks else s
  | .locked => s

/-- Counter B counts the fast reference for one tick (R5, R27). -/
def Pressure.advance : Pressure → Pressure
  | .measuring n a b start => .measuring n a (b + fastPerTick) start
  | .idle => .idle
  | .waiting n start => .waiting n start

/-- The tick at which the measurement in flight was requested. -/
def Pressure.start? : Pressure → Option Nat
  | .idle => none
  | .waiting _ start => some start
  | .measuring _ _ _ start => some start

/-- The measurement in flight for a tick: counter B, then the timeout (R27, R28). -/
def State.pressureIfDue (s : State) : State :=
  let t := { s with press := s.press.advance }
  match s.press.start? with
  | some start =>
    if start + msTicks pressureTimeoutMs ≤ s.ticks then t.failPressure .timeout else t
  | none => t

/-- The settle that has lasted settle_time (R108). -/
def State.settleIfDue (s : State) : State :=
  match s.drive.state with
  | .settling _ since =>
    if since + msTicks (s.nat .settleTime) ≤ s.ticks then State.report s.driveSettled else s
  | _ => s

/-- The move that has stood for stall_time (R109). -/
def State.stallIfDue (s : State) : State :=
  match s.drive.state with
  | .moving m =>
    if max m.countAt m.phaseAt + msTicks (s.nat .stallTime) ≤ s.ticks then
      State.report s.driveStall
    else s
  | _ => s

/-- The exposure that has lasted its time (R137). -/
def State.exposureIfDue (s : State) : State :=
  match s.run.exposure with
  | .running start =>
    let seconds := ((s.snapEntry s.run.current).map PlanEntry.exposure).getD 0
    if start + seconds * ticksPerSecond ≤ s.ticks then s.endExposure else s
  | _ => s

/-- The hold that has lasted hold_limit (R144). -/
def State.holdIfDue (s : State) : State :=
  match s.run.holdAt with
  | some t => if t + (s.snapNum .holdLimit).toNat ≤ s.time.mono then s.holdExpired else s
  | none => s

/-- The next cadence slot, 15 being followed by 0 (R92). -/
def State.nextSlot (s : State) : State := s.startSlot ((s.warn.slot + 1) % 16)

/-- The cadence slot that has lasted 100 ms (R92). -/
def State.slotIfDue (s : State) : State :=
  if s.warn.slotAt + msTicks slotMs ≤ s.ticks then s.nextSlot else s

/-- The receiver in HUNT (R181). -/
def State.hunt (s : State) : State := { s with link := { s.link with rx := .hunt } }

/-- A partial frame discarded more than 20 ms after its last byte (R181; notes/assumptions/28.md). -/
def State.frameIfDue (s : State) : State :=
  match s.link.rx with
  | .receiving _ last => if last + msTicks interbyteMs < s.ticks then s.hunt else s
  | .hunt => s

/-- The timers of the main domain that fall due at this tick, in the order the model takes them. -/
def State.timersDue (s : State) : State :=
  let s := s.relockIfDue.pressureIfDue
  let s := allContacts.foldl State.debounceIfDue s
  s.settleIfDue.stallIfDue.exposureIfDue.startExposure.holdIfDue.slotIfDue.frameIfDue

/-! The tick. -/

/-- The sub-second count advanced by one tick, with the second event of a wrap (R4, R13). -/
def State.countTick (s : State) : State := { s with ticks := s.ticks + 1 }.addTicks 1

/-- One tick of the active source. -/
def State.tick (s : State) : State := s.countTick.onMain State.timersDue

/-- A number of ticks. -/
def State.tickBy (s : State) : Nat → State
  | 0 => s
  | n + 1 => s.tick.tickBy n

/-- The second event as a command: the tick clock passes to the wrap that is due, and the counts
advance (R13, R59; notes/assumptions/3.md and 4.md). -/
def State.wrapSecond (s : State) : State :=
  { s with
    ticks := s.ticks + (ticksPerSecond - s.time.subSecond)
    time := { s.time with subSecond := 0 } }.second

end Sys2Proof.Machine
end

