-- ==== Sys2Proof/Machine/ResetOps.lean ====
section
/-! DEFINITION. COLD, WARM and the loss of POWER_GOOD: the settings reloaded, the main domain started
afresh, the retention domain kept or started (R1, R18, R19, R23, R34, R36, R55, R61, R79, R96, R97,
R102, R117, R121, R149, R175, R190, R192). -/

namespace Sys2Proof.Machine

open Sys2Proof.Config

/-! A change of the meaning of the float count, and of what the index phase stands on (R24, R36). -/

/-- The shaft UNREFERENCED by a change of float meaning, with its SENSOR notice (R36, R54). -/
def State.shaftMeaning (s : State) : State := s.setShaft .unreferenced none none

/-- The FLOAT index phase unestablished (R24). -/
def State.dropPhase (s : State) : State := { s with index := { s.index with phase := none } }

/-! The main domain afresh. -/

/-- The working copy of the settings as a reset loads it: that of the stored copy while VALID, the
defaults otherwise (R190). -/
def State.loadSettings (s : State) : Settings :=
  ((judgeSettings s.stored).map (·.settings)).getD .defaults

/-- A contact input started from its raw level (R29, 2.7). -/
def Contacts.start (c : Contacts) : Contacts := c.map fun _ l => .start l.raw

/-- The Record Memory after a reset: its arrays kept, the cursor END and the flag clear (R175). -/
def RecordMemory.restart (r : RecordMemory) : RecordMemory :=
  { r with cursor := none, overrun := false }

/-- The Warning Unit's main-domain state afresh, its latches and acknowledged level kept (R97). -/
def WarningUnit.restart (u : WarningUnit) : WarningUnit :=
  let fresh (c : LevelCell) : LevelCell := { c with entry := 0, exit := 0 }
  { watch := fresh u.watch, warning := fresh u.warning, severe := fresh u.severe, ack := u.ack,
    slot := 0, slotAt := 0 }

/-- The Link Unit after a reset: HUNT, no reply, an empty queue, the reset item set (R181, R183, R192,
R193). -/
def LinkUnit.start (k : ResetKind) : LinkUnit :=
  { rx := .hunt, reply := none, restart := false, resetItem := some k, queue := [] }

/-- Every block's main-domain state afresh under reloaded settings; the retention domain and the
non-volatile memories as they stand. -/
def State.mainAfresh (s : State) (k : ResetKind) : State :=
  { s with
    powered := true
    lock := .unlocked s.ticks
    rotor := .start (s.loadSettings.nat .rotorSpacing) -- DESIGN CHOICE: notes/assumptions/8.md
    press := .idle
    contacts := s.contacts.start
    outs := .off
    stage := { s.stage with meas := none }
    samp := { s.samp with forming := none, rate := none }
    rating := s.rating.reload
    warn := s.warn.restart
    drive := .start
    plan := .start (s.plan.slots.map judgeSlot)
    flash := .start
    run := .start
    recmem := s.recmem.restart
    settings := s.loadSettings
    stored := judgeSettings s.stored
    link := .start k }

/-- The POWER notice (R192). -/
def State.raisePower (s : State) (k : ResetKind) : State :=
  s.raise (.power
    { kind := k, storedSettings := s.stored.isSome, ratingValid := s.rating.stored.isSome,
      identitySet := s.identity.isSome, mono := s.time.mono, calendar := s.time.calendar })

/-- The Sampling Unit started: the period from the settings and storm, the next instant from the grid
time (R61). -/
def State.startGrid (s : State) : State :=
  let p := s.periodInEffect
  { s with
    samp := { forming := none, period := p, next := s.time.nextInstant p, rate := none } }

/-! WARM. -/

/-- Whether the multiplier or the direction of a channel in use differs from the settings (R23). -/
def State.channelDiffers (s : State) (ch : Chan) : Bool :=
  decide ((s.quad ch).mult ≠ s.nat (multSetting ch)) ||
    ((s.quad ch).reversed != decide (s.nat (dirSetting ch) = 1))

/-- A channel with the settings' multiplier and direction in use (R23). -/
def State.configureChannel (s : State) (ch : Chan) : State :=
  s.setQuad ch ((s.quad ch).configure (s.nat (multSetting ch))
    (decide (s.nat (dirSetting ch) = 1)))

/-- Whether the reloaded settings change the meaning of the float count (R36). -/
def State.floatDiffers (s : State) : Bool :=
  s.channelDiffers .float || decide (s.stage.linesCopy ≠ s.num .floatLines) ||
    decide (s.stage.circCopy ≠ s.num .floatCircumference)

/-- Whether the reloaded settings unestablish the index phase (R24). -/
def State.phaseDrops (s : State) : Bool :=
  s.channelDiffers .float || decide (s.stage.linesCopy ≠ s.num .floatLines) ||
    decide (s.nat .floatIndexMode = 0)

/-- The copies of float_lines and float_circumference brought to the settings (R36). -/
def State.copyFloat (s : State) : State :=
  { s with
    stage :=
      { s.stage with linesCopy := s.num .floatLines, circCopy := s.num .floatCircumference } }

/-- The reloaded encoder settings in use, and the shaft's state after them (R23, R24, R36). -/
def State.reloadEncoders (s : State) : State :=
  let shaft := s.floatDiffers
  let t := if s.phaseDrops then s.dropPhase else s
  let t := ((t.configureChannel .float).configureChannel .travel).configureChannel .reel
  let t := t.copyFloat
  if shaft then t.shaftMeaning else t

/-- The kept latches reconciled with the enabled levels under the reloaded settings (R97). -/
def State.reconcileWarm (s : State) : State :=
  let now := s.settings.enabledLevels
  { s with warn := s.warn.reconcile now now }.levelChanged s.warn.current .setting
    { stage := false, rise := false, flow := false } none

/-- A WARM (R1), with the start-up notices in the order POWER, RUN, LEVEL, SENSOR
(notes/assumptions/17.md). -/
def State.warm (s : State) (k : ResetKind) : State :=
  let t := (s.mainAfresh k).raisePower k
  let t := (t.finaliseMarked (some t.time.runTime)).finaliseRunning (some t.time.runTime)
  let t := t.reconcileWarm.reloadEncoders
  (t.startSlot 0).startGrid

/-! COLD. -/

/-- The retention domain at its COLD values; the pins keep their levels (R18, R23, R53, R55, R66, R96,
R149). -/
def State.retentionAfresh (s : State) : State :=
  let t := s.loadSettings
  let cold (ch : Chan) : Quad :=
    .cold (s.quad ch).a (s.quad ch).b (t.nat (multSetting ch)) (decide (t.nat (dirSetting ch) = 1))
  { s with
    ticks := 0
    time := .cold
    float := cold .float
    travel := cold .travel
    reel := cold .reel
    index := { phase := none, slip := false }
    stage := .cold (t.num .pressureOffset) (t.num .floatLines) (t.num .floatCircumference)
    history := []
    warn :=
      { watch := .clear, warning := .clear, severe := .clear, ack := .normal, slot := 0,
        slotAt := 0 }
    marker := { active := false, slot := 0, runNumber := s.recmem.highestRun } }

/-- A COLD (R1). -/
def State.cold (s : State) : State :=
  let t := ((s.retentionAfresh.mainAfresh .cold).raisePower .cold).finaliseRunning none
  (t.startSlot 0).startGrid

/-- A WARM by a pulse on the RESET input; the unpowered main domain takes none
(notes/assumptions/11.md). -/
def State.resetPulse (s : State) : State := s.onMain fun t => t.warm .warmResetInput

/-- POWER_GOOD deasserts: the main domain stops and the outputs are undriven (R34). -/
def State.losePower (s : State) : State := { s with powered := false, outs := .off }

end Sys2Proof.Machine
end

