-- ==== Sys2Proof/Machine/SettingOps.lean ====
section
/-! DEFINITION. Settings written and read: admission, structural checks, and what a written value does
at once (R3, R39, R56, R81, R126, R151, R188, R189, with the owners' rules). -/

namespace Sys2Proof.Machine

open Sys2Proof.Config

/-! Admission (R189 steps 1 to 3). -/

/-- A value as it would be stored, and whether it was clamped; none for a value refused INVALID
(R189 steps 1 to 3; notes/assumptions/23.md). -/
def SettingKind.accept (k : SettingKind) (v : Option Int) : Option (Option Int × Bool) :=
  match k, v with
  | .num lo hi, some x => some (some (clampInt lo hi x), decide (clampInt lo hi x ≠ x))
  | .threshold lo hi, some x => some (some (clampInt lo hi x), decide (clampInt lo hi x ≠ x))
  | .threshold _ _, none => some (none, false)
  | k, v => if k.legal v then some (v, false) else none

/-! Structural checks (R189 step 4). -/

/-- base_interval and storm_divisor fit (R56). -/
def Settings.gridFits (t : Settings) : Bool :=
  let base := t.nat .baseInterval
  let divisor := t.nat .stormDivisor
  decide (86400 % base = 0) && decide (base % divisor = 0) && decide (60 ≤ base / divisor)

/-- The present ones of a list of thresholds ascend strictly (R81). -/
def ascending : List (Option Int) → Bool
  | [] => true
  | none :: rest => ascending rest
  | some x :: rest => (rest.all fun y => (y.map fun z => decide (x < z)).getD true) && ascending rest

/-- The point limits and the method depths are in order (R126). -/
def Settings.depthsFit (t : Settings) : Bool :=
  decide (t.num .meterHeight + 50 < t.num .oneMin) && decide (t.num .oneMin < t.num .twoMin) &&
    decide (t.num .twoMin < t.num .threeMin)

/-- The owner's structural check on the settings with the new value in place (R39, R56, R81, R126,
R151); true where the owner states none. -/
def Settings.fits (t : Settings) (i : SettingId) : Bool :=
  match i with
  | .baseInterval | .stormDivisor => t.gridFits
  | .pressureFMin | .pressureFMax => decide (t.num .pressureFMin < t.num .pressureFMax)
  | .watchStageOn | .warningStageOn | .severeStageOn =>
    ascending [t.get .watchStageOn, t.get .warningStageOn, t.get .severeStageOn]
  | .watchRiseOn | .warningRiseOn | .severeRiseOn =>
    ascending [t.get .watchRiseOn, t.get .warningRiseOn, t.get .severeRiseOn]
  | .watchFlowOn | .warningFlowOn | .severeFlowOn =>
    ascending [t.get .watchFlowOn, t.get .warningFlowOn, t.get .severeFlowOn]
  | .meterHeight | .oneMin | .twoMin | .threeMin => t.depthsFit
  | .meterBreak1 | .meterBreak2 => decide (t.num .meterBreak1 < t.num .meterBreak2)
  | _ => true

/-- The settings after a value is written, and whether it was clamped; none where the request is
refused INVALID (R189 steps 1 to 4). -/
def Settings.write (t : Settings) (i : SettingId) (v : Option Int) : Option (Settings × Bool) :=
  match i.kind.accept v with
  | none => none
  | some (w, clamped) => if (t.put i w).fits i then some (t.put i w, clamped) else none

/-! What a written value does at once (R189 step 5). -/

/-- A changed multiplier, direction, circumference or line count of an axis (R23, R101). -/
def State.axisChanged (s : State) (ax : Axis) : State := State.report (s.axisMeaning ax)

/-- The multiplier and direction of a channel taken from the settings; a change reaches the channel's
owner (R23, R24, R36, R101). -/
def State.encoderWritten (s : State) (ch : Chan) : State :=
  let changed := s.channelDiffers ch
  let t := s.configureChannel ch
  if changed then
    match chanAxis ch with
    | none => t.dropPhase.shaftMeaning
    | some ax => t.axisChanged ax
  else t

/-- float_lines written (R24, R36). -/
def State.linesWritten (s : State) (changed : Bool) : State :=
  let t := s.copyFloat
  if changed then t.dropPhase.shaftMeaning else t

/-- float_circumference written (R36). -/
def State.circWritten (s : State) (changed : Bool) : State :=
  let t := s.copyFloat
  if changed then t.shaftMeaning else t

/-- position_tolerance changed: a VALID buffer becomes UNVALIDATED (R117). -/
def State.toleranceChanged (s : State) : State :=
  if s.plan.buffer = .valid then { s with plan := { s.plan with buffer := .unvalidated } } else s

/-- lockout_level written: a change of lockout is handed to the run (R91). -/
def State.lockoutWritten (s : State) (before : Bool) : State :=
  if before = s.lockout then s else s.lockoutChanged s.lockout

/-- What takes effect at once when a setting has been written; `old` is the state before the write
(R23, R24, R29, R36, R40, R57, R89 to R91, R94, R101, R117). -/
def State.settingWritten (s old : State) (i : SettingId) : State :=
  let changed := decide (s.settings.get i ≠ old.settings.get i)
  match i with
  | .floatMultiplier | .floatDirection => s.encoderWritten .float
  | .travelMultiplier | .travelDirection => s.encoderWritten .travel
  | .reelMultiplier | .reelDirection => s.encoderWritten .reel
  | .floatIndexMode => if s.nat .floatIndexMode = 0 then s.dropPhase else s
  | .debounceSurface => s.debounceIfDue .surface
  | .debounceBed => s.debounceIfDue .bed
  | .debounceReelTop => s.debounceIfDue .reelTop
  | .debounceLimitNear => s.debounceIfDue .limitNear
  | .debounceLimitFar => s.debounceIfDue .limitFar
  | .debounceDriveFault => s.debounceIfDue .driveFault
  | .debounceDoor => s.debounceIfDue .door
  | .debounceSpare => s.debounceIfDue .spare
  | .floatLines => s.linesWritten changed
  | .floatCircumference => s.circWritten changed
  | .pressureOffset => { s with stage := { s.stage with pressOffset := s.num .pressureOffset } }
  | .baseInterval | .stormDivisor => s.refreshPeriod
  | .watchStageOn | .watchRiseOn | .watchFlowOn | .warningStageOn | .warningRiseOn
  | .warningFlowOn | .severeStageOn | .severeRiseOn | .severeFlowOn =>
    s.reconcile old.settings.enabledLevels
  | .stormLevel => s.refreshPeriod
  | .lockoutLevel => s.lockoutWritten old.lockout
  | .sirenLevel => s.silence
  | .travelCircumference | .travelLines => if changed then s.axisChanged .travel else s
  | .reelCircumference | .reelLines => if changed then s.axisChanged .reel else s
  | .positionTolerance => if changed then s.toleranceChanged else s
  | _ => s

/-- The value of a setting in use: for pressure_offset, O_p (R40, R188). -/
def State.inUse (s : State) (i : SettingId) : Option Int :=
  if i = .pressureOffset then some s.stage.pressOffset else s.settings.get i

/-- The whole working copy as a store takes it, O_p as pressure_offset (R40, R190). -/
def State.settingsImage (s : State) : Settings :=
  s.settings.put .pressureOffset (some s.stage.pressOffset)

end Sys2Proof.Machine
end

