-- ==== Sys2Proof/Machine/PlanOps.lean ====
section
/-! DEFINITION. The Plan Store and the Flash Unit: validation, admission of long operations, their
completions (R75 to R78, R114 to R125, R190). -/

namespace Sys2Proof.Machine

open Sys2Proof.Config

/-! Validation (R118). -/

/-- Whether entry i of n has the wrong kind (R118). -/
def kindFault (n i : Nat) (e : PlanEntry) : Bool :=
  if i = 1 ∨ i = n then e.isMetered else !e.isMetered

/-- Whether two METERED neighbours stand too close (R118). -/
def spacingFault (tolerance : Int) (before e : PlanEntry) : Bool :=
  before.isMetered && e.isMetered && decide (e.x - before.x ≤ 2 * tolerance)

/-- The first fault among entries i, i+1, … of n, `before` the entry before entry i (R118). -/
def entriesFault (tolerance : Int) (n : Nat) :
    Nat → Option PlanEntry → List (Option PlanEntry) → Option (PlanFault × Nat)
  | _, _, [] => none
  | i, _, none :: _ => some (.missing, i)
  | i, before, some e :: rest =>
    if kindFault n i e then some (.kind, i)
    else if (before.map fun b => decide (e.x ≤ b.x)).getD false then some (.order, i)
    else if (before.map fun b => spacingFault tolerance b e).getD false then some (.spacing, i)
    else entriesFault tolerance n (i + 1) (some e) rest

/-- Entries 1 to n of a buffer, absent ones among them. -/
def firstEntries (n : Nat) (entries : List (Option PlanEntry)) : List (Option PlanEntry) :=
  (List.range n).map fun i => (entries[i]?).join

/-- The first fault of a buffer's content, with the entry it names (R118). -/
def planFault (tolerance : Int) (header : Option PlanHeader) (entries : List (Option PlanEntry)) :
    Option (PlanFault × Option Nat) :=
  match header with
  | none => some (.noHeader, none)
  | some h =>
    (entriesFault tolerance h.count 1 none (firstEntries h.count entries)).map fun f => (f.1, some f.2)

/-- The method in effect of an entry (R114). -/
def PlanEntry.resolve (h : PlanHeader) : PlanEntry → PlanEntry
  | .edge x d c => .edge x d c
  | .metered x m t r => .metered x (if m = .default then h.method else m) t r

/-- The header and entries 1 to n of the buffer, as given (R122). -/
def PlanStore.image (p : PlanStore) : Option StoredPlan :=
  p.header.map fun h => { header := h, entries := (firstEntries h.count p.entries).filterMap id }

/-- Whether a load is in flight (R117). -/
def State.loading (s : State) : Option Nat :=
  match s.flash.op with
  | some op => if op.cls = .planLoad then op.slot else none
  | none => none

/-- Whether a LOAD_PLAN is in flight (R115, R116, R118). -/
def State.isLoading (s : State) : Bool :=
  match s.flash.op with
  | some op => decide (op.cls = .planLoad)
  | none => false

/-- The plan copy handed over at START_RUN, its methods resolved; none where no valid plan exists
(R119). -/
def State.planCopy (s : State) : Option StoredPlan :=
  if s.plan.buffer = .valid ∧ s.isLoading = false then
    s.plan.image.map fun p => { p with entries := p.entries.map (PlanEntry.resolve p.header) }
  else none

/-! The Flash Unit (R120, R121). -/

/-- A long operation started (R120). -/
def State.startOp (s : State) (cls : FlashClass) (slot : Option Nat) : State :=
  { s with
    flash := { s.flash with op := some { cls := cls, slot := slot, mono := s.time.mono } } }

/-- The last outcome of a class kept (R121). -/
def FlashUnit.keep (f : FlashUnit) (cls : FlashClass) (o : FlashOutcome) : FlashUnit :=
  match cls with
  | .settings => { f with lastSettings := some o }
  | .rating => { f with lastRating := some o }
  | .planStore => { f with lastPlanStore := some o }
  | .planLoad => { f with lastPlanLoad := some o }

/-- A LONG_OP notice with its class and outcome alone (R121). -/
def State.longOp (s : State) (cls : FlashClass) (o : FlashOutcome) : LongOpNotice :=
  { cls := cls, outcome := o, slot := none, name := none, count := none, fault := none,
    entry := none, generation := none, rows := none, mono := s.time.mono }

/-- The outcome of an operation kept, and its LONG_OP notice raised (R121). -/
def State.concludeOp (s : State) (n : LongOpNotice) : State :=
  { s with flash := s.flash.keep n.cls n.outcome }.raise (.longOp n)

/-- No operation in flight (R120). -/
def State.endOp (s : State) : State := { s with flash := { s.flash with op := none } }

/-- Whether an operation of a class is in flight. -/
def State.inFlight (s : State) (cls : FlashClass) : Bool :=
  match s.flash.op with
  | some op => decide (op.cls = cls)
  | none => false

/-! Completions. -/

/-- The rating commit ends (R77, R78). -/
def State.commitDone (s : State) (ok : Bool) : State :=
  match s.rating.image with
  | none => s
  | some rows =>
    if ok then
      let g := nextGeneration s.rating.generation
      let t := { s with
        rating :=
          { s.rating with
            active := rows, generation := g, stored := some (programRating rows g), image := none } }
      t.endOp.concludeOp
        { s.longOp .rating .ok with generation := some g, rows := some rows.length }
    else
      let t := { s with rating := { s.rating with stored := none, image := none } }
      t.endOp.concludeOp
        { s.longOp .rating .flashError with
          generation := some s.rating.generation, rows := some rows.length }

/-- The settings store ends (R190). -/
def State.settingsDone (s : State) (ok : Bool) : State :=
  let t := { s with
    stored := if ok then s.flash.settingsImage.map Settings.programmed else none
    flash := { s.flash with settingsImage := none } }
  t.endOp.concludeOp (s.longOp .settings (if ok then .ok else .flashError))

/-- The plan store ends (R123). -/
def State.storeDone (s : State) (slot : Nat) (ok : Bool) : State :=
  let n : LongOpNotice :=
    { s.longOp .planStore (if ok then .ok else .flashError) with
      slot := some slot, name := s.plan.storeImage.map (·.header.name),
      count := s.plan.storeImage.map (·.header.count) }
  let t := { s with
    plan :=
      { s.plan with
        slots :=
          s.plan.slots.set (slot - 1)
            (if ok then s.plan.storeImage.map StoredPlan.programmed else none)
        storeImage := none } }
  t.endOp.concludeOp n

/-- The entries of a loaded plan in the buffer, those above n absent (R125). -/
def StoredPlan.buffer (p : StoredPlan) : List (Option PlanEntry) :=
  (p.entries.map some ++ List.replicate 32 none).take 32

/-- The plan load ends; `ok` is false where the flash could not read the slot
(R125; notes/assumptions/9.md). -/
def State.loadDone (s : State) (slot : Nat) (ok : Bool) : State :=
  let cleared := { s with plan := { s.plan with loadImage := none } }
  match s.plan.loadImage with
  | none => cleared.endOp.concludeOp { s.longOp .planLoad .notFound with slot := some slot }
  | some c =>
    let p := c.plan
    if ok && c.matched then
      let fault := planFault (s.num .positionTolerance) (some p.header) p.buffer
      let t := { cleared with
        plan :=
          { cleared.plan with
            header := some p.header, entries := p.buffer,
            buffer := if fault.isSome then .unvalidated else .valid, lastFault := fault } }
      t.endOp.concludeOp
        { s.longOp .planLoad (if fault.isSome then .invalid else .ok) with
          slot := some slot, name := some p.header.name, count := some p.header.count,
          fault := fault.map (·.1), entry := fault.bind (·.2) }
    else
      let t := { cleared with
        plan := { cleared.plan with slots := cleared.plan.slots.set (slot - 1) none } }
      t.endOp.concludeOp { s.longOp .planLoad .flashError with slot := some slot }

/-- The slot of the operation in flight. -/
def State.opSlot (s : State) : Nat := (s.flash.op.bind (·.slot)).getD 0

end Sys2Proof.Machine
end

