-- ==== Sys2Proof/Machine/Wire.lean ====
section
/-! DEFINITION. The encoding of replies and notices (R183, R186, R187). Choices are coded by the order
in which their values are first listed, which is the order of the constructors here. A number whose
range no rule states takes four bytes, and which optional items share a presence byte is the model's
choice (DESIGN CHOICE, notes/assumptions/20.md). -/

namespace Sys2Proof.Machine

open Sys2Proof.Config

/-! Parts of replies and notices. -/

/-- Shaft state, then its fault causes, present while FAULTED (R54). -/
def shaftBytes (s : ShaftState) : List Byte :=
  match s with
  | .unreferenced => u8 0
  | .healthy => u8 1
  | .faulted _ _ => u8 2

/-- The causes of a shaft fault: PHASE_ERRORS, SATURATION. -/
def shaftCause (s : ShaftState) : List Byte :=
  match s with
  | .faulted p q => byte 1 :: flagSet [p, q]
  | _ => byte 0 :: u8 0

/-- Pressure state. -/
def pressBytes (s : PressState) : List Byte :=
  match s with
  | .healthy => u8 0
  | .faulted _ => u8 1

/-- The cause of a pressure fault, present while FAULTED. -/
def pressCause (s : PressState) : List Byte :=
  match s with
  | .healthy => byte 0 :: u8 0
  | .faulted c => byte 1 :: u8 c.ctorIdx

/-- A hold cause set: HOST, LOCKOUT, MOTION. -/
def causesBytes (c : HoldCauses) : List Byte := flagSet [c.host, c.lockout, c.motion]

/-- Header flags: POOR, UNSTEADY, ORDER, NOT_HOMED. -/
def headerFlagBytes (f : HeaderFlags) : List Byte :=
  flagSet [f.poor, f.unsteady, f.order, f.notHomed]

/-- A set of contact inputs (R186). -/
def lineSetBytes (l : LineSet) : List Byte :=
  flagSet [l.surface, l.bed, l.reelTop, l.limitNear, l.limitFar, l.driveFault, l.door, l.spare]

/-- An axis check's cause: SATURATION, PHASE_ERRORS. -/
def checkBytes : Option CheckCause → List Byte :=
  optional (u8 0) fun c => flagSet [c.saturation, c.phaseErrors]

/-- The kind of a move: TO_POSITION, TO_CONTACT, HOME. -/
def moveKindBytes (k : MoveKind) : List Byte :=
  match k with
  | .toPosition _ => u8 0
  | .toContact _ _ => u8 1
  | .home => u8 2

/-- The outcome of a move: REACHED, CONTACT, PAYOUT_LIMIT, STOPPED. -/
def moveOutcomeBytes (o : MoveOutcome) : List Byte :=
  match o with
  | .reached => u8 0
  | .contact => u8 1
  | .payoutLimit => u8 2
  | .stopped _ => u8 3

/-- An optional choice, by its code. -/
def optCode {α : Type} (f : α → Nat) : Option α → List Byte := optional (u8 0) fun a => u8 (f a)

/-- A plan header (R114). -/
def headerBytes (h : PlanHeader) : List Byte :=
  name h.name ++ u8 h.count ++ u8 h.method.ctorIdx

/-- A plan entry, its kind as the byte that names the form (R114, R186). -/
def entryBytes (e : PlanEntry) : List Byte :=
  match e with
  | .edge x d c => u8 0 ++ i32 x ++ u16 d.toNat ++ u16 c.toNat
  | .metered x m t r => u8 1 ++ i32 x ++ u8 m.ctorIdx ++ u16 t ++ u8 r

/-- A row of a rating table (5.1). -/
def rowBytes (r : Row) : List Byte := i16 r.stage ++ u32 r.flow.toNat

/-- A level's state (R82). -/
def cellBytes (c : LevelCell) : List Byte := yesNo (!c.latched) ++ u8 c.entry ++ u8 c.exit

/-- Capture items: polarity, armed, captured, notice enable (2.7). -/
def captureBytes (c : CaptureItems) : List Byte :=
  yesNo c.falling ++ yesNo c.armed ++ yesNo c.captured ++ yesNo c.notice

/-- The eight output lines in the order of R34. -/
def outputBytes (o : Outputs) : List Byte :=
  flagSet [o.travelFwd, o.travelRev, o.reelDown, o.reelUp, o.speedSlow, o.siren, o.beacon, o.attn]

/-- A time field of a result header. -/
def runTimeBytes (t : RunTime) : List Byte :=
  u32 t.mono ++ optU32 t.calendar ++ u8 t.quality.ctorIdx

/-- A stage field of a result header. -/
def runStageBytes (r : RunStage) : List Byte := i16 r.value ++ u8 r.quality.ctorIdx

/-- A result header, in the order of R173. -/
def resultHeaderBytes (h : ResultHeader) : List Byte :=
  u32 h.runNumber ++ u16 h.station ++ name h.name ++ u8 h.count ++ u8 h.status.ctorIdx ++
  optCode (·.ctorIdx) h.abortReason ++ runTimeBytes h.startTime ++ runStageBytes h.startStage ++
  optional (List.replicate 10 0) runTimeBytes h.endTime ++
  optional (List.replicate 3 0) runStageBytes h.endStage ++ optI16 h.meanStage ++
  optI32 h.discharge ++ optI32 h.area ++ optI16 h.meanVelocity ++ optI32 h.ratingFlow ++
  optU16 h.generation ++ optI32 h.deviation ++ optU8 h.interpCount ++ headerFlagBytes h.flags

/-- A kept repeat. -/
def repeatBytes (r : Repeat) : List Byte := u16 r.count ++ yesNo r.saturated

/-- A point of a vertical record, in the order of R174. The actual payout, which a point that failed its
placement may lack, is sent as an optional field with its presence byte (DESIGN CHOICE,
notes/assumptions/20.md). -/
def pointBytes (p : Point) : List Byte :=
  optU16 p.fraction ++ i32 p.depth ++ i32 p.target ++ optI32 p.actual ++
  counted repeatBytes p.repeats ++ optI16 p.velocity ++
  flagSet [p.flags.clamped, p.flags.bedStop, p.flags.still, p.flags.fast, p.flags.saturated,
    p.flags.spread] ++
  optCode (·.ctorIdx) p.failure

/-- A vertical record, in the order of R174. -/
def vertBytes (v : VertRecord) : List Byte :=
  u8 v.index ++ u8 v.kind.ctorIdx ++ i32 v.planX ++ i32 v.actualX ++ optI32 v.depth ++
  optCode (·.ctorIdx) v.method ++ counted pointBytes v.points ++ optI16 v.velocity ++
  flagSet [v.shallow, v.failed.isSome, v.pointFailed, v.offset, v.interpolated] ++
  optCode (·.ctorIdx) v.failed

/-- As many whole items of a list as fit in a number of bytes (R186). -/
def takeFitting {α : Type} (f : α → List Byte) : Nat → List α → List α
  | _, [] => []
  | room, a :: rest =>
    if (f a).length ≤ room then a :: takeFitting f (room - (f a).length) rest else []

/-- The kind and cause of a reset: COLD or WARM, then SUPPLY, RESET_INPUT or RESTART for WARM. -/
def resetBytes (k : ResetKind) : List Byte :=
  match k with
  | .cold => [0, 0, 0]
  | .warmSupply => [1, 1, 0]
  | .warmResetInput => [1, 1, 1]
  | .warmRestart => [1, 1, 2]

/-- The cursor as a number: next at END (R175, R187). -/
def ArchivePlace.cursorNumber (p : ArchivePlace) : Nat := p.cursor.getD p.next

/-! Notices (R195). -/

/-- A LEVEL notice (R88). Stage and quality, absent together, have a presence byte each (DESIGN CHOICE,
notes/assumptions/20.md). -/
def levelNoticeBytes (n : LevelNotice) : List Byte :=
  u8 n.from_.code ++ u8 n.to_.code ++ u8 n.peak.code ++ u8 n.cause.ctorIdx ++
  flagSet [n.met.stage, n.met.rise, n.met.flow] ++ optI16 n.stage ++
  optCode (·.ctorIdx) n.quality ++ optI32 n.rate ++ optI32 n.flow ++ u8 n.ack.code ++
  yesNo (!n.storm) ++ yesNo (!n.lockout) ++ u32 n.mono ++ optU32 n.calendar

/-- The code of an end's status: COMPLETE, INSUFFICIENT or ABORTED (R150). -/
def endStatusCode (s : RunStatus) : Nat := s.ctorIdx - 1

/-- A RUN notice (R150). -/
def runNoticeBytes (n : RunNotice) : List Byte :=
  (match n.event with
    | .phase _ _ => u8 0
    | .ended _ _ _ => u8 1) ++
  u32 n.runNumber ++ u8 n.slot ++
  (match n.event with
    | .phase a b => [1] ++ u8 a.ctorIdx ++ [1] ++ u8 b.ctorIdx
    | .ended _ _ _ => [0, 0, 0, 0]) ++
  optU8 n.current ++ causesBytes n.causes ++ optCode (·.ctorIdx) n.motionCause ++
  (match n.event with
    | .phase _ _ => [0, 0, 0, 0, 0, 0]
    | .ended s r f =>
      [1] ++ u8 (endStatusCode s) ++ optCode (·.ctorIdx) r ++ [1] ++ headerFlagBytes f) ++
  u32 n.mono ++ optU32 n.calendar

/-- A LONG_OP notice (R121). Each optional field has a presence byte of its own, those that R121 gives in
groups too (DESIGN CHOICE, notes/assumptions/20.md). -/
def longOpNoticeBytes (n : LongOpNotice) : List Byte :=
  u8 n.cls.ctorIdx ++ u8 n.outcome.ctorIdx ++ optU8 n.slot ++ optional [0] name n.name ++
  optU8 n.count ++ optCode (·.ctorIdx) n.fault ++ optU8 n.entry ++ optU16 n.generation ++
  optU8 n.rows ++ u32 n.mono

/-- A CLOCK notice (R17). -/
def clockNoticeBytes (n : ClockNotice) : List Byte :=
  u8 n.cause.ctorIdx ++ u8 n.source.ctorIdx ++ yesNo (!n.clockFail) ++ u32 n.mono ++
  optU32 n.calendar

/-- A SENSOR notice (R54). -/
def sensorNoticeBytes (n : SensorNotice) : List Byte :=
  flagSet [n.changed.shaft, n.changed.press, n.changed.disagree] ++ shaftBytes n.shaft ++
  shaftCause n.shaft ++ pressBytes n.press ++ pressCause n.press ++ yesNo (!n.disagree) ++
  optI16 n.shaftValue ++ optI16 n.pressValue ++ u32 n.mono

/-- The event of a MOTION notice: COMPLETED, STOPPED, FAULT. -/
def motionEventCode : MotionEvent → List Byte
  | .completed _ => u8 0
  | .stopped _ => u8 1
  | .fault _ => u8 2

/-- The outcome with its reason, then the fault cause, each with a presence byte (R113). -/
def motionOutcomeBytes : MotionEvent → List Byte
  | .completed o => [1] ++ moveOutcomeBytes o ++ [0, 0, 0, 0]
  | .stopped r => [1] ++ u8 3 ++ [1] ++ u8 r.ctorIdx ++ [0, 0]
  | .fault c => [0, 0, 0, 0, 1] ++ u8 c.ctorIdx

/-- A MOTION notice (R113). -/
def motionNoticeBytes (n : MotionNotice) : List Byte :=
  motionEventCode n.event ++ optCode (·.ctorIdx) n.axis ++ optional [0] moveKindBytes n.kind ++
  motionOutcomeBytes n.event ++
  optCode (·.ctorIdx) n.contact ++ optI32 n.stopPos ++ optI32 n.finalPos ++
  yesNo (!n.travelRef) ++ yesNo (!n.reelRef) ++ checkBytes n.check ++ u8 n.state.ctorIdx ++ u32 n.mono

/-- A POWER notice (R192). -/
def powerNoticeBytes (n : PowerNotice) : List Byte :=
  resetBytes n.kind ++ yesNo (!n.storedSettings) ++ yesNo (!n.ratingValid) ++
  yesNo (!n.identitySet) ++ u32 n.mono ++ optU32 n.calendar

/-- An ARCHIVE notice (R179). -/
def archiveNoticeBytes (n : ArchiveNotice) : List Byte :=
  yesNo n.renumbered ++ u32 n.skipped ++ u32 n.cursor ++ optU32 n.oldest ++
  optU32 n.newest ++ u32 n.mono

/-- A notice: its kind code and its content (R195). -/
def noticeBytes (n : Notice) : List Byte :=
  u8 n.kind.ctorIdx ++
  match n with
  | .level n => levelNoticeBytes n
  | .run n => runNoticeBytes n
  | .longOp n => longOpNoticeBytes n
  | .clock n => clockNoticeBytes n
  | .sensor n => sensorNoticeBytes n
  | .line n => lineSetBytes n
  | .motion n => motionNoticeBytes n
  | .power n => powerNoticeBytes n
  | .archive n => archiveNoticeBytes n

/-! The interval record and the archive reply (R187). -/

/-- The code of a time quality in an interval record: 0 UNSET, 1 CRYSTAL, 2 RC. -/
def TimeQuality.recordCode (q : TimeQuality) : Nat := q.ctorIdx

/-- A bit of a byte, by its weight. -/
def bit (b : Bool) (weight : Nat) : Nat := if b then weight else 0

/-- An interval record in its fixed layout of 27 bytes (R187). -/
def intervalBytes (r : IntervalRecord) : List Byte :=
  let rate := ((r.rate.getD 0) % 16777216).toNat
  u32 r.mono ++ u32 (r.calendar.getD 0) ++
  u8 (bit r.calendar.isSome 128 + bit r.stage.isSome 64 + bit r.shaft.isSome 32 +
    bit r.press.isSome 16 + bit r.flow.isSome 8 + bit r.rate.isSome 4 +
    r.timeQuality.recordCode) ++
  u8 (r.quality.ctorIdx * 32 + r.level.code * 8 + bit r.slip 4 + bit r.range 2 + bit r.storm 1) ++
  i16 (r.stage.getD 0) ++ i16 (r.shaft.getD 0) ++ i16 (r.press.getD 0) ++
  u32 (r.flow.getD 0).toNat ++ u16 (r.generation.getD 0) ++
  [byte (rate / 65536), byte (rate / 256), byte rate] ++
  u16 (r.period % 4096 + bit r.differs 4096 + bit r.below 8192 + bit r.above 16384)

/-- The fields of an ARCHIVE_READ reply after the outcome (R187). -/
def archiveBytes (r : ArchiveReply) : List Byte :=
  flagSet [r.place.cursor.isNone, r.begin_, r.overrun, r.place.oldest.isNone] ++
  u8 r.records.length ++ u32 r.place.cursorNumber ++ u32 (r.place.oldest.getD 0) ++
  u32 (r.place.newest.getD 0) ++ u32 r.place.next ++
  u32 ((r.records.head?.map (·.seq)).getD 0) ++ r.records.flatMap intervalBytes

/-! Replies. -/

/-- STATUS, group by group (R193). The reset item, and the cause in it, are sent as optional fields; the
three fields of the fault record share a presence byte, as do the class and slot of the operation in
flight; oldest and newest have one each; one byte is both the number of queued entries and the count
byte of their kinds (DESIGN CHOICE, notes/assumptions/20.md). -/
def statusBytes (r : StatusReply) : List Byte :=
  optional [0, 0, 0] resetBytes r.reset ++
  yesNo (!r.calendarSet) ++ u8 r.source.ctorIdx ++ yesNo r.switchPending ++ yesNo (!r.clockFail) ++
  yesNo (!r.locked) ++
  optI16 r.reportedValue ++ u8 r.reportedQuality.ctorIdx ++ shaftBytes r.shaft ++
  pressBytes r.press ++ yesNo (!r.disagree) ++
  u8 r.level.code ++ u8 r.ack.code ++ yesNo (!r.storm) ++ yesNo (!r.lockout) ++
  u8 r.phase.ctorIdx ++ u32 r.runNumber ++ optU8 r.resultSlot ++ optU8 r.current ++
  causesBytes r.causes ++ optCode (·.ctorIdx) r.motionCause ++
  u8 r.drive.ctorIdx ++
  optional (List.replicate 7 0)
    (fun f : DriveFault × Option Axis × Nat =>
      u8 f.1.ctorIdx ++ optCode (·.ctorIdx) f.2.1 ++ u32 f.2.2) r.fault ++
  yesNo (!r.travelRef) ++ yesNo (!r.reelRef) ++
  optional (List.replicate 3 0)
    (fun f : FlashClass × Option Nat => u8 f.1.ctorIdx ++ optU8 f.2) r.flashOp ++
  optCode (·.ctorIdx) r.lastSettings ++ optCode (·.ctorIdx) r.lastRating ++
  optCode (·.ctorIdx) r.lastPlanStore ++ optCode (·.ctorIdx) r.lastPlanLoad ++
  yesNo (!r.settingsValid) ++
  u16 r.generation ++ u8 r.activeRows ++ yesNo (!r.ratingValid) ++
  u8 r.buffer.ctorIdx ++ optU8 r.loading ++
  optU32 r.oldest ++ optU32 r.newest ++ u32 r.next ++ yesNo r.overrun ++
  u16 r.station ++ counted (fun k : NoticeKind => u8 k.ctorIdx) r.notices

/-- GET_STAGE (R68). The time of the reported stage, absent after COLD (R53), is sent as an optional field
(DESIGN CHOICE, notes/assumptions/20.md). -/
def stageReplyBytes (r : StageReply) : List Byte :=
  optI16 r.shaftLive ++ shaftBytes r.shaft ++ optI16 r.pressLive ++ optU32 r.pressAge ++
  pressBytes r.press ++ yesNo (!r.disagree) ++ optI16 r.reported.value ++
  u8 r.reported.quality.ctorIdx ++ optU32 r.reported.mono ++ optI32 r.rate ++ u8 r.level.code ++
  yesNo (!r.storm) ++ u16 r.period ++
  optional (List.replicate 5 0) (fun n : Nat => u32 n ++ yesNo (!r.onCalendar)) r.next ++
  yesNo r.forming ++ u8 r.history

/-- GET_TIME (R16). -/
def timeReplyBytes (r : TimeReply) : List Byte :=
  optU32 r.calendar ++ yesNo (r.calendar.isNone) ++ u32 r.mono ++ u16 r.subSecond ++
  u8 r.source.ctorIdx ++
  optional [0, 0] (fun p : PendingSwitch => u8 p.good ++ u8 p.closed) r.pending ++
  yesNo (!r.clockFail) ++ yesNo (!r.locked) ++ u8 r.quality.ctorIdx

/-- SET_REFERENCE (R41, R42). -/
def referenceBytes (r : ReferenceReply) : List Byte :=
  i16 r.staff ++ i32 r.previous ++ i32 r.offset ++
  match r.state with
  | .inl s => shaftBytes s
  | .inr p => u32 (r.age.getD 0) ++ pressBytes p

/-- ACK_WARNING (R95). -/
def warningBytes (r : WarningReply) : List Byte :=
  u8 r.current.code ++ u8 r.ack.code ++ cellBytes r.watch ++ cellBytes r.warning ++
  cellBytes r.severe ++ yesNo (!r.storm) ++ yesNo (!r.lockout) ++ yesNo r.sounding

/-- The completion a JOG reply carries (R108, R112). -/
def completionBytes (c : Completion) : List Byte :=
  moveOutcomeBytes c.outcome ++ optCode (·.ctorIdx) c.contact ++ optI32 c.stopPos ++
  optI32 c.finalPos ++ yesNo (!c.referenced) ++ checkBytes c.check

/-- An entry of a GET_PLAN reply, a METERED one with its method in effect; an absent one as zeros
(R119). -/
def planItemBytes (p : Nat × Option (PlanEntry × Option EntryMethod)) : List Byte :=
  u8 p.1 ++
  optional (List.replicate 9 0)
    (fun e : PlanEntry × Option EntryMethod =>
      entryBytes e.1 ++
      match e.2 with
      | some m => u8 m.ctorIdx
      | none => []) p.2

/-- A slot of a GET_PLAN reply (R119): one byte is both its state, EMPTY 0 and STORED 1, and the presence
of its name and count, which an EMPTY slot sends as zeros (DESIGN CHOICE, notes/assumptions/20.md). -/
def planSlotBytes (p : Option (List Byte × Nat)) : List Byte :=
  optional [0, 0] (fun q : List Byte × Nat => name q.1 ++ u8 q.2) p

/-- GET_PLAN (R119). -/
def planReplyBytes (r : PlanReply) : List Byte :=
  u8 r.buffer.ctorIdx ++ optU8 r.loading ++
  optional [0, 0, 0] (fun f : PlanFault × Option Nat => u8 f.1.ctorIdx ++ optU8 f.2) r.lastFault ++
  optional [0, 0, 0] headerBytes r.header ++ counted planItemBytes r.entries ++ optU8 r.next ++
  r.slots.flatMap planSlotBytes

/-- The reply fields, in the order in which the owning rule lists them; the row count of GET_RATING is the
count byte of its list (R74, R186; notes/assumptions/20.md). -/
def bodyBytes (b : ReplyBody) : List Byte :=
  match b with
  | .nothing => []
  | .status r => statusBytes r
  | .stage r => stageReplyBytes r
  | .time r => timeReplyBytes r
  | .setTime p => optU32 p
  | .setting id v d => u16 id.toNat ++ optI32 v ++ optI32 d
  | .storedSetting v => optI32 v
  | .reference r => referenceBytes r
  | .ratingRow r n => rowBytes r ++ u8 n
  | .ratingCount n => u8 n
  | .rating r =>
    counted rowBytes r.rows ++ u16 r.generation ++ yesNo (!r.storedValid) ++ yesNo r.inFlight
  | .commit n g => u8 n ++ u16 g
  | .commitFault f n =>
    match f with
    | .tooFew => u8 0 ++ u8 n
    | .stageOrder i => u8 1 ++ u8 i
    | .dischargeOrder i => u8 2 ++ u8 i
  | .busyClass c => u8 c.ctorIdx
  | .warning r => warningBytes r
  | .captures l => l.flatMap captureBytes
  | .lines levels items outs =>
    ((levels.zip items).flatMap fun p => yesNo (!p.1) ++ captureBytes p.2) ++ outputBytes outs
  | .jog c => completionBytes c
  | .planHeader h b => headerBytes h ++ u8 b.ctorIdx
  | .planEntry i e b => u8 i ++ entryBytes e ++ u8 b.ctorIdx
  | .validated n => u8 n
  | .planFault f e => u8 f.ctorIdx ++ optU8 e
  | .plan r => planReplyBytes r
  | .bufferNotValid => u8 0
  | .superseded s => optU8 s
  | .runStarted n s => u32 n ++ u8 s
  | .runState p c => u8 p.ctorIdx ++ causesBytes c
  | .seek p o =>
    u32 p.cursorNumber ++ optU32 p.oldest ++ optU32 p.newest ++ u32 p.next ++ yesNo o
  | .archive r => archiveBytes r
  | .resultSlot s =>
    match s with
    | .number n => u8 0 ++ u8 n
    | .newest => u8 1
  | .resultHeader n h c => u8 n ++ resultHeaderBytes h ++ u8 c
  | .resultVerts n vs c m => u8 n ++ counted vertBytes vs ++ u8 c ++ yesNo m
  | .notice n => noticeBytes n
  | .writeFailed => u8 0

/-- The frame of a reply: the kind with bit 7 set, the tag, the outcome byte and the reply fields
(R183). -/
def Reply.frame (r : Reply) : List Byte :=
  Machine.frame (r.kind ||| 0x80) r.tag (byte r.code.ctorIdx :: bodyBytes r.body)

/-- Bytes of a RESULT_READ VERTICALS payload besides its records: outcome, slot, count byte, number
held, more-follow (R180). -/
def resultVertsOverhead : Nat := 5

end Sys2Proof.Machine
end

