-- ==== Sys2Proof/Machine/RequestOps.lean ====
section
/-! DEFINITION. The requests of 12.4, each as the block that owns it judges and answers it: the state
after it, the outcome and the reply fields. A refusal carries no field but those its owner names
(notes/assumptions/30.md). -/

namespace Sys2Proof.Machine

open Sys2Proof.Config

/-- What a request comes to: the state after it, the outcome and the reply fields (R183). -/
structure Answer where
  state : State
  code : ReplyCode
  body : ReplyBody

/-- An answer with no reply fields. -/
def State.plain (s : State) (c : ReplyCode) : Answer := { state := s, code := c, body := .nothing }

/-- An answer OK, or CLAMPED where a value was brought into range (R3). -/
def State.answered (s : State) (clamped : Bool) (b : ReplyBody) : Answer :=
  { state := s, code := if clamped then .clamped else .ok, body := b }

/-! Reset item, time and clock (R8, R14, R16, R193). -/

/-- Every group of STATUS as it stands (R193). -/
def State.statusReply (s : State) : StatusReply :=
  { reset := s.link.resetItem, calendarSet := s.time.calendar.isSome, source := s.time.source,
    switchPending := s.time.pending.isSome, clockFail := s.time.clockFail,
    locked := decide (s.lock = .locked), reportedValue := s.stage.reported.value,
    reportedQuality := s.stage.reported.quality, shaft := s.stage.shaft, press := s.stage.press,
    disagree := s.stage.disagree, level := s.warn.current, ack := s.warn.ack, storm := s.storm,
    lockout := s.lockout, phase := s.run.phase, runNumber := s.marker.runNumber,
    resultSlot := if s.run.phase = .idle then none else some s.marker.slot,
    current := if s.run.phase = .idle then none else some s.run.current, causes := s.run.causes,
    motionCause := s.run.motionCause, drive := s.drive.state.mode,
    fault := s.drive.fault.map fun f => (f.cause, f.axis, f.mono),
    travelRef := s.drive.travelRef, reelRef := s.drive.reelRef,
    flashOp := s.flash.op.map fun o => (o.cls, o.slot), lastSettings := s.flash.lastSettings,
    lastRating := s.flash.lastRating, lastPlanStore := s.flash.lastPlanStore,
    lastPlanLoad := s.flash.lastPlanLoad, settingsValid := Option.isSome s.stored,
    generation := s.rating.generation, activeRows := s.rating.active.length,
    ratingValid := s.rating.stored.isSome, buffer := s.plan.buffer, loading := s.loading,
    oldest := s.recmem.oldest, newest := s.recmem.newest, next := s.recmem.next,
    overrun := s.recmem.overrun, station := s.identity.getD 0,
    notices := s.link.queue.map Notice.kind }

/-- STATUS: the reset item is reported once (R193). -/
def State.reqStatus (s : State) : Answer :=
  { state := { s with link := { s.link with resetItem := none } }, code := .ok,
    body := .status s.statusReply }

/-- GET_TIME (R16). -/
def State.reqGetTime (s : State) : Answer :=
  { state := s, code := .ok,
    body := .time
      { calendar := s.time.calendar, mono := s.time.mono, subSecond := s.time.subSecond,
        source := s.time.source, pending := s.time.pending, clockFail := s.time.clockFail,
        locked := decide (s.lock = .locked), quality := s.time.quality } }

/-- SET_TIME: the calendar replaced, and the time step handed to the grid (R14, R60). -/
def State.reqSetTime (s : State) (v : Nat) : Answer :=
  let t := { s with time := { s.time with calendar := some v } }
  { state := { t with samp := { t.samp with next := t.time.nextInstant t.samp.period } },
    code := .ok, body := .setTime s.time.calendar }

/-- SET_CLOCK_SOURCE CRYSTAL (R8, R9). -/
def State.reqClockCrystal (s : State) : Answer :=
  match s.time.pending, s.time.source with
  | some _, _ => s.plain .busy
  | none, .crystal => s.plain .ok
  | none, .rc =>
    State.plain
      { s with
        time :=
          { s.time with pending := some { good := 0, closed := 0 }, bad := 0, recent := [] } }
      .accepted

/-- SET_CLOCK_SOURCE RC (R8). -/
def State.reqClockRc (s : State) : Answer :=
  match s.time.pending, s.time.source with
  | some _, _ => s.plain .busy
  | none, .crystal => (s.changeSource s.time.toRc).plain .ok
  | none, .rc => s.plain .ok

/-! Stage (R41, R42, R51, R68). -/

/-- The live shaft stage: absent while UNREFERENCED (R35, R68). -/
def State.liveShaft (s : State) : Option Int :=
  if s.stage.shaft = .unreferenced then none else some (s.shaftStage s.float.count).1

/-- The live pressure stage from the kept record, with the record's age (R38, R68). -/
def State.livePress (s : State) : Option (Int × Nat) :=
  s.stage.meas.bind fun m =>
    if s.frequencyAccepted m.freq then some ((s.pressureStage m.freq).1, s.time.mono - m.mono)
    else none

/-- GET_STAGE (R68). -/
def State.reqGetStage (s : State) : Answer :=
  { state := s, code := .ok,
    body := .stage
      { shaftLive := s.liveShaft, shaft := s.stage.shaft, pressLive := s.livePress.map (·.1),
        pressAge := s.livePress.map (·.2), press := s.stage.press, disagree := s.stage.disagree,
        reported := s.stage.reported, rate := s.samp.rate, level := s.warn.current,
        storm := s.storm, period := s.samp.period, next := s.samp.next,
        onCalendar := s.time.calendar.isSome, forming := s.samp.forming.isSome,
        history := s.history.length } }

/-- The capture waiting for formation, its tally and saturated state set aside (R44). -/
def Sampling.setAside (p : Sampling) : Sampling :=
  { p with
    forming := p.forming.map fun f => { f with capture := { f.capture with setAside := true } } }

/-- SET_REFERENCE SHAFT, steps 1 to 6 (R41, R51). -/
def State.reqReferenceShaft (s : State) (staff : Int) : Answer :=
  let v := (clampStage staff).1
  let offset := v - s.shaftTravel s.float.count
  let t := { s with
    stage := { s.stage with shaftOffset := offset }, float := s.float.clear
    samp := s.samp.setAside }.dropPhase
  let t := (t.setShaft .healthy none none).setDisagree false 0 none none
  t.answered (clampStage staff).2
    (.reference
      { staff := v, previous := s.stage.shaftOffset, offset := offset, age := none,
        state := .inl t.stage.shaft })

/-- SET_REFERENCE PRESSURE (R42, R51). -/
def State.reqReferencePressure (s : State) (staff : Int) : Answer :=
  match s.stage.meas with
  | none => s.plain .noValue
  | some m =>
    if s.frequencyAccepted m.freq then
      let v := (clampStage staff).1
      let offset := v - s.pressureRise m.freq
      let t := { s with stage := { s.stage with pressOffset := offset } }
      let t := t.setDisagree false 0 none none
      t.answered (clampStage staff).2
        (.reference
          { staff := v, previous := s.stage.pressOffset, offset := offset,
            age := some (s.time.mono - m.mono), state := .inr t.stage.press })
    else s.plain .noValue

/-! Settings (R188 to R190). -/

/-- GET_SETTING (R188). -/
def State.reqGetSetting (s : State) (id : BitVec 16) : Answer :=
  match settingOfCode id with
  | none => s.plain .notFound
  | some i => { state := s, code := .ok, body := .setting id (s.inUse i) i.default }

/-- PUT_SETTING (R189). -/
def State.reqPutSetting (s : State) (id : BitVec 16) (v : Option Int) : Answer :=
  match settingOfCode id with
  | none => s.plain .notFound
  | some i =>
    match s.settings.write i v with
    | none => s.plain .invalid
    | some (t, clamped) =>
      ({ s with settings := t }.settingWritten s i).answered clamped (.storedSetting (t.get i))

/-- A long request refused BUSY with the class in flight (R120). -/
def State.busyWith (s : State) (op : FlashOp) : Answer :=
  { state := s, code := .busy, body := .busyClass op.cls }

/-- STORE_SETTINGS (R190). -/
def State.reqStoreSettings (s : State) : Answer :=
  match s.flash.op with
  | some op => s.busyWith op
  | none =>
    let t := s.startOp .settings none
    State.plain
      { t with
        stored := none, flash := { t.flash with settingsImage := some s.settingsImage } } .accepted

/-! Rating (R73 to R75). -/

/-- PUT_RATING_ROW (R73). -/
def State.reqPutRow (s : State) (index : Nat) (stage flow : Int) : Answer :=
  let c := s.rating.staging.length
  let row : Row := { stage := clampInt stageMin stageMax stage, flow := clampInt 0 dischargeMax flow }
  let clamped := decide (row.stage ≠ stage) || decide (row.flow ≠ flow)
  if index < c then
    State.answered { s with rating := { s.rating with staging := s.rating.staging.set index row } }
      clamped (.ratingRow row c)
  else if index = c ∧ c < 24 then
    State.answered { s with rating := { s.rating with staging := s.rating.staging ++ [row] } }
      clamped (.ratingRow row (c + 1))
  else s.plain .invalid

/-- CLEAR_RATING_STAGING (R74). -/
def State.reqClearStaging (s : State) : Answer :=
  { state := { s with rating := { s.rating with staging := [] } }, code := .ok,
    body := .ratingCount 0 }

/-- GET_RATING (R74). -/
def State.reqGetRating (s : State) (table : Nat) : Answer :=
  let reply (rows : List Row) : Answer :=
    { state := s, code := .ok,
      body := .rating
        { rows := rows, generation := s.rating.generation,
          storedValid := s.rating.stored.isSome, inFlight := s.inFlight .rating } }
  match table with
  | 0 => reply s.rating.active
  | 1 => reply s.rating.staging
  | _ => s.plain .invalid

/-- COMMIT_RATING (R75, R76). -/
def State.reqCommit (s : State) : Answer :=
  let rows := s.rating.staging
  match commitFault rows, s.flash.op with
  | some f, _ => { state := s, code := .invalid, body := .commitFault f rows.length }
  | none, some op => s.busyWith op
  | none, none =>
    let t := s.startOp .rating none
    { state := { t with rating := { t.rating with image := some rows, stored := none } },
      code := .accepted, body := .commit rows.length (nextGeneration s.rating.generation) }

/-! Warning (R95). -/

/-- The warning state as ACK_WARNING reports it (R95). -/
def State.warningReply (s : State) : WarningReply :=
  { current := s.warn.current, ack := s.warn.ack, watch := s.warn.watch,
    warning := s.warn.warning, severe := s.warn.severe, storm := s.storm, lockout := s.lockout,
    sounding := s.sounding }

/-- ACK_WARNING; every reply carries the warning state (R94, R95). -/
def State.reqAck (s : State) (level : Nat) : Answer :=
  match Level.ofCode level with
  | none => { state := s, code := .invalid, body := .warning s.warningReply }
  | some l =>
    if l.code < s.warn.current.code then
      { state := s, code := .state, body := .warning s.warningReply }
    else
      let t := { s with warn := { s.warn with ack := s.warn.current } }.silence
      { state := t, code := .ok, body := .warning t.warningReply }

/-! Captures and lines (R32, R33). -/

/-- The capture items of an input (2.7). -/
def ContactLine.items (l : ContactLine) : CaptureItems :=
  { falling := l.falling, armed := l.armed, captured := l.captured, notice := l.notice }

/-- The capture items of all eight inputs (R33). -/
def State.captureItems (s : State) : List CaptureItems :=
  allContacts.map fun i => (s.contacts.get i).items

/-- The inputs of a set replaced by their images. -/
def State.modLines (s : State) (l : LineSet) (f : Contact → ContactLine → ContactLine) : State :=
  { s with contacts := s.contacts.map fun i c => if l.has i then f i c else c }

/-- The reply of a SET_CAPTURE that was carried out (R32). -/
def State.captured (s : State) : Answer :=
  { state := s, code := .ok, body := .captures s.captureItems }

/-- SET_CAPTURE ARM (R32). -/
def State.reqArm (s : State) (lines : Byte) (notice : Bool) : Answer :=
  let l := LineSet.ofByte lines
  if l.isEmpty then s.plain .invalid
  else (s.modLines l fun _ c => { c with armed := true, notice := notice }).captured

/-- The queue with the inputs of a set taken out of its LINE entry, and the entry with its last input
(R32). -/
def dropLines (l : LineSet) (q : List Notice) : List Notice :=
  q.filterMap fun n =>
    match n with
    | .line m => if (m.diff l).isEmpty then none else some (.line (m.diff l))
    | other => some other

/-- SET_CAPTURE DISARM (R32). -/
def State.reqDisarm (s : State) (lines : Byte) : Answer :=
  let l := LineSet.ofByte lines
  if l.isEmpty then s.plain .invalid
  else
    let t := s.modLines l fun _ c => { c with armed := false, captured := false, notice := false }
    (t.setQueue (dropLines l s.link.queue)).captured

/-- SET_CAPTURE SELECT (R32). -/
def State.reqSelect (s : State) (lines polarity : Byte) : Answer :=
  let l := LineSet.ofByte lines
  let p := LineSet.ofByte polarity
  if l.isEmpty || !p.subset l then s.plain .invalid
  else (s.modLines l fun i c => { c with falling := !p.has i }).captured

/-- READ_LINES (R33). -/
def State.reqReadLines (s : State) : Answer :=
  { state := s, code := .ok,
    body := .lines (allContacts.map s.level) s.captureItems s.outs }

/-! Drive (R111, R112). -/

/-- JOG: a move request of the host (R112). -/
def State.reqJog (s : State) (ax : Axis) (k : MoveKind) : Answer :=
  if s.run.phase ≠ .idle ∧ s.run.phase ≠ .hold then s.plain .runActive
  else
    match s.requestMove { requester := .host, axis := ax, kind := k, speed := .auto } with
    | (t, .invalid) => t.plain .invalid
    | (t, .busy) => t.plain .busy
    | (t, .faulted) => t.plain .faulted
    | (t, .interlock) => t.plain .interlock
    | (t, .state) => t.plain .state
    | (t, .started _) => t.plain .accepted
    | (t, .complete clamped c) => t.answered clamped (.jog c)

/-- STOP (R111). -/
def State.reqStop (s : State) : Answer :=
  match s.drive.state with
  | .idle => s.plain .ok
  | .moving _ => (State.report (s.stopMove .host)).plain .ok
  | .settling _ _ => (State.report (s.stopMove .host)).plain .ok
  | .faulted => if s.level .driveFault then s.plain .faulted else s.clearDrive.plain .ok

/-! Plans (R115, R116, R118, R119, R122, R124). -/

/-- An edit of the buffer: UNVALIDATED, the last fault forgotten (R117, R118). -/
def PlanStore.edited (p : PlanStore) : PlanStore :=
  { p with buffer := .unvalidated, lastFault := none }

/-- The refusal BUSY while a LOAD_PLAN is in flight, with the class in flight beside it
(R115, R116, R118; notes/assumptions/30.md). -/
def State.busyLoading (s : State) : Answer :=
  { state := s, code := .busy, body := .busyClass .planLoad }

/-- PUT_PLAN_HEADER (R115). -/
def State.reqPutHeader (s : State) (name : List Byte) (count method : Nat) : Answer :=
  match nameFits name, headerMethod method with
  | true, some m =>
    if s.isLoading then s.busyLoading
    else
      let n := max 3 (min 32 count)
      let h : PlanHeader := { name := name, count := n, method := m }
      State.answered { s with plan := { s.plan.edited with header := some h } } (decide (n ≠ count))
        (.planHeader h .unvalidated)
  | _, _ => s.plain .invalid

/-- The limits of a position (R114). -/
def clampX (x : Int) : Int := clampInt (-1000000) 1000000 x

/-- An entry as stored, and whether it was clamped; none for a method outside its list (R116). -/
def storedEntry (e : VertForm) : Option (PlanEntry × Bool) :=
  match e with
  | .edge x d c =>
    let d' := clampInt 0 5000 d
    let c' := clampInt 0 1000 c
    some (.edge (clampX x) d' c',
      decide (clampX x ≠ x) || decide (d' ≠ d) || decide (c' ≠ c))
  | .metered x m t r =>
    let t' := clampInt 20 300 t
    let r' := clampInt 1 4 r
    (EntryMethod.ofCode m).map fun m =>
      (.metered (clampX x) m t'.toNat r'.toNat,
        decide (clampX x ≠ x) || decide (t' ≠ t) || decide (r' ≠ r))

/-- PUT_VERTICAL; the entry as stored is told with its index (R116; notes/assumptions/37.md). -/
def State.reqPutVertical (s : State) (index : Nat) (e : VertForm) : Answer :=
  if index < 1 ∨ 32 < index then s.plain .invalid
  else
    match storedEntry e with
    | none => s.plain .invalid
    | some (entry, clamped) =>
      if s.isLoading then s.busyLoading
      else
        State.answered
          { s with
            plan :=
              { s.plan.edited with entries := s.plan.entries.set (index - 1) (some entry) } }
          clamped (.planEntry index entry .unvalidated)

/-- VALIDATE_PLAN (R118). -/
def State.reqValidate (s : State) : Answer :=
  if s.isLoading then s.busyLoading
  else
    match planFault (s.num .positionTolerance) s.plan.header s.plan.entries with
    | none =>
      { state := { s with plan := { s.plan with buffer := .valid, lastFault := none } },
        code := .ok, body := .validated ((s.plan.header.map (·.count)).getD 0) }
    | some (fault, entry) =>
      { state :=
          { s with
            plan := { s.plan with buffer := .unvalidated, lastFault := some (fault, entry) } },
        code := .invalid, body := .planFault fault entry }

/-- The default method of the buffer: the header's, a free value while there is no header
(R114; notes/assumptions/36.md). -/
def PlanStore.defaultMethod (p : PlanStore) : EntryMethod :=
  match p.header with
  | some h => h.method
  | none => (EntryMethod.ofCode Config.methodWithoutHeader).getD .default

/-- The method in effect of an entry of the buffer, for METERED (R114, R119). -/
def PlanStore.inEffect (p : PlanStore) (e : PlanEntry) : Option EntryMethod :=
  match e with
  | .edge _ _ _ => none
  | .metered _ m _ _ => some (if m = .default then p.defaultMethod else m)

/-- An entry of the buffer with its index and its method in effect (R119). -/
def PlanStore.item (p : PlanStore) (i : Nat) : Nat × Option (PlanEntry × Option EntryMethod) :=
  (i, (p.entries[i - 1]?).join.map fun e => (e, p.inEffect e))

/-- The indexes from the start, 8 at most, up to 32 (R119). -/
def planIndexes (start : Nat) : List Nat :=
  (List.range 8).filterMap fun k => if start + k ≤ 32 then some (start + k) else none

/-- The GET_PLAN reply from a starting index, with a list of items in it (R119). -/
def State.planReply (s : State) (start : Nat)
    (items : List (Nat × Option (PlanEntry × Option EntryMethod))) : PlanReply :=
  { buffer := s.plan.buffer, loading := s.loading, lastFault := s.plan.lastFault,
    header := s.plan.header, entries := items,
    next := if start + items.length ≤ 32 then some (start + items.length) else none,
    slots := s.plan.slots.map fun p => p.map fun q => (q.plan.header.name, q.plan.header.count) }

/-- GET_PLAN: as many whole entries, up to 8, as fit in the payload (R119, R186). -/
def State.reqGetPlan (s : State) (start : Nat) : Answer :=
  if start < 1 ∨ 32 < start then s.plain .invalid
  else
    let room := maxPayload - 1 - (planReplyBytes (s.planReply start [])).length
    let items := takeFitting planItemBytes room ((planIndexes start).map s.plan.item)
    { state := s, code := .ok, body := .plan (s.planReply start items) }

/-- Whether a slot number names a plan slot (R122). -/
def planSlot (slot : Nat) : Bool := decide (1 ≤ slot) && decide (slot ≤ 6)

/-- STORE_PLAN (R122, R123). -/
def State.reqStorePlan (s : State) (slot : Nat) : Answer :=
  if !planSlot slot then s.plain .invalid
  else if s.plan.buffer ≠ .valid then { state := s, code := .invalid, body := .bufferNotValid }
  else
    match s.flash.op with
    | some op => s.busyWith op
    | none =>
      let t := s.startOp .planStore (some slot)
      State.plain
        { t with
          plan :=
            { t.plan with
              slots := t.plan.slots.set (slot - 1) none, storeImage := s.plan.image } }
        .accepted

/-- A load started: its slot read into the load image (R124, R125). -/
def State.startLoad (s : State) (slot : Nat) : State :=
  let t := s.startOp .planLoad (some slot)
  { t with plan := { t.plan with loadImage := (s.plan.slots[slot - 1]?).join } }

/-- LOAD_PLAN. The reply names the slot of the load it supersedes; with no load to supersede the field is
absent (R120, R124; DESIGN CHOICE, notes/assumptions/20.md). -/
def State.reqLoadPlan (s : State) (slot : Nat) : Answer :=
  if !planSlot slot then s.plain .invalid
  else
    match s.flash.op with
    | none => { state := s.startLoad slot, code := .accepted, body := .superseded none }
    | some op =>
      if op.cls = .planLoad then
        let t := s.concludeOp { s.longOp .planLoad .superseded with slot := op.slot }
        { state := t.startLoad slot, code := .accepted, body := .superseded op.slot }
      else s.busyWith op

/-! Runs (R127 to R129, R145 to R147). -/

/-- The header a claim writes (R128, R173). -/
def State.claimHeader (s : State) (number : Nat) (h : PlanHeader) : ResultHeader :=
  { runNumber := number, station := s.identity.getD 0, name := h.name, count := h.count,
    status := .running, abortReason := none, startTime := s.time.runTime,
    startStage :=
      { value := s.stage.reported.value.getD 0, quality := s.stage.reported.quality },
    endTime := none, endStage := none, meanStage := none, discharge := none, area := none,
    meanVelocity := none, ratingFlow := none, generation := none, deviation := none,
    interpCount := none,
    flags := { poor := false, unsteady := false, order := false, notHomed := false } }

/-- The record of plan entry 1 (R128). -/
def firstEdge (p : StoredPlan) : List VertRecord :=
  match p.entries with
  | e :: _ => [edgeRecord 1 e]
  | [] => []

/-- Steps 1 to 7 of an accepted START_RUN, but for the entry to STARTING (R128, R129). -/
def State.claimRun (s : State) (p : StoredPlan) : State :=
  let number := min (s.marker.runNumber + 1) max32
  let slot := s.recmem.chooseSlot
  { s with
    recmem :=
      s.recmem.setSlot slot
        (some { header := s.claimHeader number p.header, verts := firstEdge p })
    marker := { active := true, slot := slot, runNumber := number }
    run :=
      { RunUnit.start with
        snap := some { header := p.header, entries := p.entries, settings := s.settings }
        current := 2 } }

/-- START_RUN, judged against the lines of R127 in order. -/
def State.reqStartRun (s : State) : Answer :=
  if s.run.phase ≠ .idle then s.plain .runActive
  else
    match s.planCopy with
    | none => s.plain .invalid
    | some p =>
      if s.lockout then s.plain .lockout
      else if s.stage.reported.quality = .missing then s.plain .noStage
      else
        match s.drive.state with
        | .faulted => s.plain .faulted
        | .moving _ => s.plain .busy
        | .settling _ _ => s.plain .busy
        | .idle =>
          let t := s.claimRun p
          { state := t.runDo .starting, code := .ok,
            body := .runStarted t.marker.runNumber t.marker.slot }

/-- A reply with the phase and the hold cause set as they stand (R145, R146). -/
def State.runReply (s : State) (c : ReplyCode) : Answer :=
  { state := s, code := c, body := .runState s.run.phase s.run.causes }

/-- HOLD_RUN (R145). -/
def State.reqHold (s : State) : Answer :=
  if s.run.phase.working ∨ s.run.phase = .holdRetract ∨ s.run.phase = .hold then
    (s.addHold fun c => { c with host := true }).runReply .ok
  else s.runReply .state

/-- Steps 2 and 3 of RESUME_RUN: HOST removed, and MOTION when the clear attempt leaves the drive IDLE
(R111, R146). -/
def State.clearCauses (s : State) : State :=
  let t := s.modRun fun r => { r with causes := { r.causes with host := false } }
  if t.run.causes.motion then
    let u := t.clearDrive
    if u.drive.state = .idle then
      u.modRun fun r => { r with causes := { r.causes with motion := false } }
    else u
  else t

/-- RESUME_RUN (R146). -/
def State.reqResume (s : State) : Answer :=
  if s.run.phase ≠ .hold then s.runReply .state
  else
    match s.drive.state with
    | .moving _ => s.runReply .busy
    | .settling _ _ => s.runReply .busy
    | _ =>
      let t := s.clearCauses
      if t.run.causes.isEmpty then (t.runDo .starting).runReply .ok
      else if t.run.causes.lockout then t.runReply .lockout
      else t.runReply .faulted

/-- ABORT_RUN (R147). -/
def State.reqAbort (s : State) : Answer :=
  match s.run.phase with
  | .idle => s.plain .state
  | .abortHome => s.plain .ok
  | .hold => (s.abortHeld .host).plain .ok
  | _ => s.abortActive.plain .ok

/-! The archive (R175 to R178). -/

/-- Where the archive stands. -/
def RecordMemory.place (r : RecordMemory) : ArchivePlace :=
  { cursor := r.cursor, oldest := r.oldest, newest := r.newest, next := r.next }

/-- A reply to ARCHIVE_SEEK: the cursor, oldest, newest and next as they stand, and the overrun flag
(R176). -/
def State.seekReply (s : State) (code : ReplyCode) : Answer :=
  { state := s, code := code, body := .seek s.recmem.place s.recmem.overrun }

/-- The cursor set by a seek, with its reply (R176). -/
def State.seekTo (s : State) (cursor : Option Nat) (clamped : Bool) : Answer :=
  State.seekReply { s with recmem := { s.recmem with cursor := cursor } }
    (if clamped then .clamped else .ok)

/-- ARCHIVE_SEEK OLDEST (R176). -/
def State.reqSeekOldest (s : State) : Answer := s.seekTo s.recmem.oldest false

/-- ARCHIVE_SEEK NEWEST (R176). -/
def State.reqSeekNewest (s : State) : Answer := s.seekTo s.recmem.newest false

/-- ARCHIVE_SEEK SEQ n (R176). -/
def State.reqSeekSeq (s : State) (n : Nat) : Answer :=
  match s.recmem.oldest with
  | none => s.seekTo none (decide (n ≠ s.recmem.next))
  | some oldest =>
    if n < oldest then s.seekTo (some oldest) true
    else if n < s.recmem.next then s.seekTo (some n) false
    else s.seekTo none (decide (n ≠ s.recmem.next))

/-- ARCHIVE_SEEK TIME t (R176). -/
def State.reqSeekTime (s : State) (t : Nat) : Answer :=
  s.seekTo
    ((s.recmem.recs.find? fun r => (r.calendar.map fun c => decide (t ≤ c)).getD false).map
      (·.seq)) false

/-- The count of a read as carried out (R177). -/
def readCount (count : Nat) : Nat := max 1 (min 8 count)

/-- The answer of a read: the records taken, the cursor after it; the overrun flag is reported and
cleared (R177). -/
def State.readAnswer (s : State) (count : Nat) (records : List IntervalRecord)
    (cursor : Option Nat) (begin_ : Bool) : Answer :=
  let t := { s with recmem := { s.recmem with cursor := cursor, overrun := false } }
  t.answered (decide (readCount count ≠ count))
    (.archive
      { records := records, begin_ := begin_, overrun := s.recmem.overrun,
        place := t.recmem.place })

/-- ARCHIVE_READ FORWARD (R177). -/
def State.reqReadForward (s : State) (count : Nat) : Answer :=
  match s.recmem.cursor with
  | none => s.readAnswer count [] none false
  | some c =>
    let rest := s.recmem.recs.dropWhile fun r => decide (r.seq < c)
    s.readAnswer count (rest.take (readCount count))
      ((rest[readCount count]?).map (·.seq)) false

/-- ARCHIVE_READ BACKWARD (R178). -/
def State.reqReadBackward (s : State) (count : Nat) : Answer :=
  let upTo := (s.recmem.recs.takeWhile fun r =>
    (s.recmem.cursor.map fun c => decide (r.seq ≤ c)).getD true).reverse
  match upTo with
  | [] => s.readAnswer count [] s.recmem.cursor false
  | _ =>
    let left := upTo[readCount count]?
    s.readAnswer count (upTo.take (readCount count))
      (match left with
        | some r => some r.seq
        | none => s.recmem.oldest) left.isNone

/-- ARCHIVE_READ HOLD (R177). -/
def State.reqReadHold (s : State) (count : Nat) : Answer :=
  s.readAnswer count
    ((s.recmem.cursor.bind fun c => s.recmem.recs.find? fun r => decide (r.seq = c)).toList)
    s.recmem.cursor false

/-! Results (R180). -/

/-- The slot with the highest run number, the highest-numbered of equals (R180). -/
def newestResult : List (Nat × Option RunResult) → Option (Nat × RunResult)
  | [] => none
  | (n, some r) :: rest =>
    match newestResult rest with
    | none => some (n, r)
    | some (m, q) => if q.header.runNumber < r.header.runNumber then some (n, r) else some (m, q)
  | (_, none) :: rest => newestResult rest

/-- The result a slot name finds, with its slot (R180). -/
def RecordMemory.find (r : RecordMemory) (name : SlotName) : Option (Nat × RunResult) :=
  match name with
  | .number n => (r.slot n).map fun v => (n, v)
  | .newest => newestResult r.numbered

/-- Whether a slot name is 1 to 8 or NEWEST (R180). -/
def slotNameFits (name : SlotName) : Bool :=
  match name with
  | .number n => decide (1 ≤ n) && decide (n ≤ 8)
  | .newest => true

/-- RESULT_READ HEADER (R180). -/
def State.reqResultHeader (s : State) (name : SlotName) : Answer :=
  if !slotNameFits name then s.plain .invalid
  else
    match s.recmem.find name with
    | none => { state := s, code := .notFound, body := .resultSlot name }
    | some (n, r) => { state := s, code := .ok, body := .resultHeader n r.header r.verts.length }

/-- RESULT_READ VERTICALS: as many whole records, up to 4, as fit in the payload (R180, R186). -/
def State.reqResultVerticals (s : State) (name : SlotName) (start : Nat) : Answer :=
  if !slotNameFits name || decide (start < 1) || decide (32 < start) then s.plain .invalid
  else
    match s.recmem.find name with
    | none => { state := s, code := .notFound, body := .resultSlot name }
    | some (n, r) =>
      let from_ := r.verts.filter fun v => decide (start ≤ v.index)
      let sent := takeFitting vertBytes (maxPayload - resultVertsOverhead) (from_.take 4)
      { state := s, code := .ok,
        body := .resultVerts n sent r.verts.length (decide (sent.length < from_.length)) }

/-! Notices, identity, restart (R191, R192, R195). -/

/-- TAKE_NOTICE (R195). -/
def State.reqTakeNotice (s : State) : Answer :=
  match s.link.queue with
  | [] => s.plain .empty
  | n :: q => { state := s.setQueue q, code := .ok, body := .notice n }

/-- SET_IDENTITY, with the outcome of the write and read-back (R191). -/
def State.reqSetIdentity (s : State) (number : Nat) (writeOk : Bool) : Answer :=
  if number = 0 then s.plain .invalid
  else if s.identity.isSome then s.plain .alreadySet
  else if writeOk then State.plain { s with identity := some number } .ok
  else { state := s, code := .state, body := .writeFailed }

/-- RESTART: its WARM takes place when the reply has been sent (R192). -/
def State.reqRestart (s : State) : Answer :=
  State.plain { s with link := { s.link with restart := true } } .ok

/-- A kind with bit 7 set, or not in the list of 12.4 (R184). -/
def State.reqUnknown (s : State) : Answer := s.plain .unknown

/-- A payload that does not match its request's fields, or a code outside its list (R184). Every reply to
ACK_WARNING carries the warning state (R95), every reply to HOLD_RUN and RESUME_RUN the phase and the
hold cause set (R145, R146), and every reply to ARCHIVE_SEEK the place of the archive and the overrun
flag, the cursor unchanged (R176); notes/assumptions/30.md. -/
def State.reqInvalid (s : State) (kind : Byte) : Answer :=
  match kind.toNat with
  | 0x38 => { state := s, code := .invalid, body := .warning s.warningReply }
  | 0x61 => s.runReply .invalid
  | 0x62 => s.runReply .invalid
  | 0x70 => s.seekReply .invalid
  | _ => s.plain .invalid

end Sys2Proof.Machine
end

