-- ==== Sys2Proof/Machine/LinkOps.lean ====
section
/-! DEFINITION. The Link Unit at work: the receiver, the reply in progress, the requests served (R181 to
R184, R192). -/

namespace Sys2Proof.Machine

open Sys2Proof.Config

/-! Replies (R183). -/

/-- Whether the Link Unit takes bytes and frames: powered, with no reply in progress (R183). -/
def State.listening (s : State) : Bool := s.powered && s.link.reply.isNone

/-- An answer with its reply in progress; the receiver stands in HUNT (R181, R183). -/
def Answer.reply (a : Answer) (kind tag : Byte) : State :=
  { a.state with
    link :=
      { a.state.link with
        rx := .hunt, reply := some { kind := kind, tag := tag, code := a.code, body := a.body } } }

/-- An accepted request: judged, carried out and answered. What arrives while a reply is in progress,
or at an unpowered Link Unit, is lost (R183; notes/assumptions/10.md). -/
def State.serve (s : State) (kind tag : Byte) (f : State → Answer) : State :=
  if s.listening then (f s).reply kind tag else s

/-- The last byte of the reply has been sent; a RESTART answered takes place now (R183, R192). -/
def State.replySent (s : State) : State :=
  match s.link.reply with
  | none => s
  | some _ =>
    let t := { s with link := { s.link with reply := none } }
    if s.link.restart then t.warm .warmRestart else t

/-! Requests by command. -/

/-- The answer to a request given as a command (12.4); UNKNOWN for a command that is no request. -/
def State.answer (i : Instr) (s : State) : Answer :=
  match i with
  | .status _ => s.reqStatus
  | .getStage _ => s.reqGetStage
  | .getTime _ => s.reqGetTime
  | .setTime _ v => s.reqSetTime v.toNat
  | .setClockSourceCrystal _ => s.reqClockCrystal
  | .setClockSourceRc _ => s.reqClockRc
  | .getSetting _ id => s.reqGetSetting id
  | .putSetting _ id v => s.reqPutSetting id v
  | .storeSettings _ => s.reqStoreSettings
  | .setReferenceShaft _ x => s.reqReferenceShaft x
  | .setReferencePressure _ x => s.reqReferencePressure x
  | .putRatingRow _ k h q => s.reqPutRow k h q
  | .clearRatingStaging _ => s.reqClearStaging
  | .getRating _ t => s.reqGetRating t
  | .commitRating _ => s.reqCommit
  | .ackWarning _ l => s.reqAck l
  | .setCaptureArm _ l n => s.reqArm l n
  | .setCaptureDisarm _ l => s.reqDisarm l
  | .setCaptureSelect _ l p => s.reqSelect l p
  | .readLines _ => s.reqReadLines
  | .jogTravelPosition _ x => s.reqJog .travel (.toPosition x)
  | .jogTravelHome _ => s.reqJog .travel .home
  | .jogReelPayout _ x => s.reqJog .reel (.toPosition x)
  | .jogReelTop _ => s.reqJog .reel (.toContact .reelTop 0)
  | .stop _ => s.reqStop
  | .putPlanHeader _ n c m => s.reqPutHeader n c m
  | .putVertical _ k e => s.reqPutVertical k e
  | .validatePlan _ => s.reqValidate
  | .getPlan _ k => s.reqGetPlan k
  | .storePlan _ n => s.reqStorePlan n
  | .loadPlan _ n => s.reqLoadPlan n
  | .startRun _ => s.reqStartRun
  | .holdRun _ => s.reqHold
  | .resumeRun _ => s.reqResume
  | .abortRun _ => s.reqAbort
  | .archiveSeekOldest _ => s.reqSeekOldest
  | .archiveSeekNewest _ => s.reqSeekNewest
  | .archiveSeekSeq _ n => s.reqSeekSeq n.toNat
  | .archiveSeekTime _ t => s.reqSeekTime t.toNat
  | .archiveReadForward _ n => s.reqReadForward n
  | .archiveReadBackward _ n => s.reqReadBackward n
  | .archiveReadHold _ n => s.reqReadHold n
  | .resultReadHeader _ n => s.reqResultHeader n
  | .resultReadVerticals _ n k => s.reqResultVerticals n k
  | .takeNotice _ => s.reqTakeNotice
  | .setIdentity _ n ok => s.reqSetIdentity n.toNat ok
  | .restart _ => s.reqRestart
  | .coldReset => s.reqUnknown
  | .warmSupplyReturn => s.reqUnknown
  | .resetInputPulse => s.reqUnknown
  | .powerGoodLoss => s.reqUnknown
  | .secondEvent => s.reqUnknown
  | .windowClose _ => s.reqUnknown
  | .multiplierLock => s.reqUnknown
  | .gridInstant => s.reqUnknown
  | .pressureEdge _ => s.reqUnknown
  | .pressureComplete _ => s.reqUnknown
  | .pressureTimeout => s.reqUnknown
  | .quadratureTransition _ _ _ => s.reqUnknown
  | .floatIndexEdge => s.reqUnknown
  | .rotorEdge _ => s.reqUnknown
  | .contactRawChange _ _ _ => s.reqUnknown
  | .debounceExpiry _ => s.reqUnknown
  | .driveStall => s.reqUnknown
  | .settleEnd => s.reqUnknown
  | .exposureStart => s.reqUnknown
  | .exposureExpiry => s.reqUnknown
  | .holdLimitExpiry => s.reqUnknown
  | .cadenceSlot => s.reqUnknown
  | .ratingCommitComplete _ => s.reqUnknown
  | .settingsStoreComplete _ => s.reqUnknown
  | .planStoreComplete _ => s.reqUnknown
  | .planLoadComplete _ => s.reqUnknown
  | .frameInterbyteTimeout => s.reqUnknown
  | .frameLengthInvalid => s.reqUnknown
  | .frameByteFramingError => s.reqUnknown
  | .frameCrcMismatch => s.reqUnknown
  | .replySent => s.reqUnknown
  | .unknownRequest _ _ => s.reqUnknown
  | .frameByteReceived _ _ => s.reqUnknown

/-- The answer to an accepted frame (R184). -/
def State.answerFrame (kind tag : Byte) (payload : List Byte) (writeOk : Bool) (s : State) : Answer :=
  match decodeRequest kind tag payload writeOk with
  | .command i => s.answer i
  | .invalid => s.reqInvalid kind
  | .unknown => s.reqUnknown

/-! The receiver (R181). -/

/-- The receiver's state replaced. -/
def State.setRx (s : State) (r : Receiver) : State := { s with link := { s.link with rx := r } }

/-- The bytes of a frame after its start byte: length, kind, tag, payload, CRC (12.1). -/
def frameSize (length : Nat) : Nat := length + 5

/-- The bytes of a complete frame judged by their CRC and served (R181, R182). -/
def State.takeFrame (s : State) (bytes : List Byte) (writeOk : Bool) : State :=
  let covered := bytes.take (bytes.length - 2)
  if bytes.drop (bytes.length - 2) = crcBytes covered then
    match covered with
    | _ :: kind :: tag :: payload => s.serve kind tag (State.answerFrame kind tag payload writeOk)
    | _ => s.hunt
  else s.hunt

/-- A byte received without a framing error (R181, R183). -/
def State.receive (s : State) (b : Byte) (writeOk : Bool) : State :=
  if s.listening then
    match s.link.rx with
    | .hunt => if b = startByte then s.setRx (.receiving [] s.ticks) else s
    | .receiving got _ =>
      let bytes := got ++ [b]
      let length := (bytes.headD 0).toNat
      if maxPayload < length then s.hunt
      else if bytes.length < frameSize length then s.setRx (.receiving bytes s.ticks)
      else s.takeFrame bytes writeOk
  else s

/-- The frame discarded at a length byte above 240 (R181). -/
def State.discardAtLength (s : State) : State :=
  s.onMain fun t =>
    match t.link.rx with
    | .receiving [] _ => t.hunt
    | _ => t

/-- A partial frame discarded; in HUNT there is none (R181). -/
def State.discard (s : State) : State := s.onMain State.hunt

end Sys2Proof.Machine
end

