-- ==== Sys2Proof/Machine/ClockCommands.lean ====
section
/-! DEFINITION. The commands of the clock: seconds, windows, the lock, and the requests of chapter 1. -/

namespace Sys2Proof.Machine

/-- SECOND_EVENT (R13). -/
def execSecondEvent (s : State) : Host.Outcome State Fault Refusal :=
  .next s.wrapSecond

/-- WINDOW_CLOSE (R6). -/
def execWindowClose (count : Nat) (s : State) : Host.Outcome State Fault Refusal :=
  .next (s.closeWindow count)

/-- MULTIPLIER_LOCK (R5). -/
def execMultiplierLock (s : State) : Host.Outcome State Fault Refusal :=
  .next (s.onMain State.locks)

/-- GET_TIME (R16). -/
def execGetTime (tag : Byte) (s : State) : Host.Outcome State Fault Refusal :=
  .next (s.serve 0x10 tag State.reqGetTime)

/-- SET_TIME (R14). -/
def execSetTime (tag : Byte) (value : BitVec 32) (s : State) : Host.Outcome State Fault Refusal :=
  .next (s.serve 0x11 tag fun t => t.reqSetTime value.toNat)

/-- SET_CLOCK_SOURCE_CRYSTAL (R8). -/
def execSetClockSourceCrystal (tag : Byte) (s : State) : Host.Outcome State Fault Refusal :=
  .next (s.serve 0x12 tag State.reqClockCrystal)

/-- SET_CLOCK_SOURCE_RC (R8). -/
def execSetClockSourceRc (tag : Byte) (s : State) : Host.Outcome State Fault Refusal :=
  .next (s.serve 0x12 tag State.reqClockRc)

end Sys2Proof.Machine
end

