-- ==== Sys2Proof/Machine/DriveCommands.lean ====
section
/-! DEFINITION. The commands of the cableway drive (chapter 7). -/

namespace Sys2Proof.Machine

/-- DRIVE_STALL (R109). -/
def execDriveStall (s : State) : Host.Outcome State Fault Refusal :=
  .next (s.onMain fun t => State.report t.driveStall)

/-- SETTLE_END (R108). -/
def execSettleEnd (s : State) : Host.Outcome State Fault Refusal :=
  .next (s.onMain fun t => State.report t.driveSettled)

/-- JOG_TRAVEL_POSITION (R112). -/
def execJogTravelPosition (tag : Byte) (x : Int) (s : State) : Host.Outcome State Fault Refusal :=
  .next (s.serve 0x48 tag fun t => t.reqJog .travel (.toPosition x))

/-- JOG_TRAVEL_HOME (R112). -/
def execJogTravelHome (tag : Byte) (s : State) : Host.Outcome State Fault Refusal :=
  .next (s.serve 0x48 tag fun t => t.reqJog .travel .home)

/-- JOG_REEL_PAYOUT (R112). -/
def execJogReelPayout (tag : Byte) (x : Int) (s : State) : Host.Outcome State Fault Refusal :=
  .next (s.serve 0x48 tag fun t => t.reqJog .reel (.toPosition x))

/-- JOG_REEL_TOP; the move carries the payout limit 0 (R112; notes/assumptions/39.md). -/
def execJogReelTop (tag : Byte) (s : State) : Host.Outcome State Fault Refusal :=
  .next (s.serve 0x48 tag fun t => t.reqJog .reel (.toContact .reelTop 0))

/-- STOP (R111). -/
def execStop (tag : Byte) (s : State) : Host.Outcome State Fault Refusal :=
  .next (s.serve 0x49 tag State.reqStop)

end Sys2Proof.Machine
end

