-- ==== Sys2Proof/Machine/InputsCommands.lean ====
section
/-! DEFINITION. The commands of the field wiring (chapter 2). -/

namespace Sys2Proof.Machine

/-- PRESSURE_EDGE (R27). -/
def execPressureEdge (b : Nat) (s : State) : Host.Outcome State Fault Refusal :=
  .next (s.onMain fun t => t.pressurePulse b)

/-- PRESSURE_COMPLETE (R27). -/
def execPressureComplete (b : Nat) (s : State) : Host.Outcome State Fault Refusal :=
  .next (s.onMain fun t => t.pressureDone b)

/-- PRESSURE_TIMEOUT (R28). -/
def execPressureTimeout (s : State) : Host.Outcome State Fault Refusal :=
  .next (s.onMain fun t => t.failPressure .timeout)

/-- QUADRATURE_TRANSITION (R20). -/
def execQuadratureTransition (ch : Chan) (a : Bool) (b : Bool) (s : State) :
    Host.Outcome State Fault Refusal :=
  .next (s.observePair ch a b)

/-- FLOAT_INDEX_EDGE (R24). -/
def execFloatIndexEdge (s : State) : Host.Outcome State Fault Refusal :=
  .next s.floatIndex

/-- ROTOR_EDGE (R26). -/
def execRotorEdge (elapsed : Nat) (s : State) : Host.Outcome State Fault Refusal :=
  .next ((s.tickBy elapsed).onMain State.rotorPulse)

/-- CONTACT_RAW_CHANGE (R29). -/
def execContactRawChange (input : Contact) (level : Bool) (elapsed : Nat) (s : State) :
    Host.Outcome State Fault Refusal :=
  .next ((s.tickBy elapsed).rawChange input level)

/-- DEBOUNCE_EXPIRY (R29). -/
def execDebounceExpiry (input : Contact) (s : State) : Host.Outcome State Fault Refusal :=
  .next (s.onMain fun t => t.debounced input)

end Sys2Proof.Machine
end

