-- ==== Sys2Proof/Machine/LinesCommands.lean ====
section
/-! DEFINITION. The commands of captures and lines (chapter 2). -/

namespace Sys2Proof.Machine

/-- SET_CAPTURE_ARM (R32). -/
def execSetCaptureArm (tag : Byte) (lines : Byte) (notice : Bool) (s : State) :
    Host.Outcome State Fault Refusal :=
  .next (s.serve 0x40 tag fun t => t.reqArm lines notice)

/-- SET_CAPTURE_DISARM (R32). -/
def execSetCaptureDisarm (tag : Byte) (lines : Byte) (s : State) :
    Host.Outcome State Fault Refusal :=
  .next (s.serve 0x40 tag fun t => t.reqDisarm lines)

/-- SET_CAPTURE_SELECT (R32). -/
def execSetCaptureSelect (tag : Byte) (lines : Byte) (polarity : Byte) (s : State) :
    Host.Outcome State Fault Refusal :=
  .next (s.serve 0x40 tag fun t => t.reqSelect lines polarity)

/-- READ_LINES (R33). -/
def execReadLines (tag : Byte) (s : State) : Host.Outcome State Fault Refusal :=
  .next (s.serve 0x41 tag State.reqReadLines)

end Sys2Proof.Machine
end

