-- ==== Sys2Proof/Machine/LinkCommands.lean ====
section
/-! DEFINITION. The commands of the link and the notice queue (chapter 12). -/

namespace Sys2Proof.Machine

/-- FRAME_INTERBYTE_TIMEOUT (R181). -/
def execFrameInterbyteTimeout (s : State) : Host.Outcome State Fault Refusal :=
  .next s.discard

/-- FRAME_LENGTH_INVALID (R181). -/
def execFrameLengthInvalid (s : State) : Host.Outcome State Fault Refusal :=
  .next s.discardAtLength

/-- FRAME_BYTE_FRAMING_ERROR (R181). -/
def execFrameByteFramingError (s : State) : Host.Outcome State Fault Refusal :=
  .next s.discard

/-- FRAME_CRC_MISMATCH (R181). -/
def execFrameCrcMismatch (s : State) : Host.Outcome State Fault Refusal :=
  .next s.discard

/-- REPLY_SENT (R183). -/
def execReplySent (s : State) : Host.Outcome State Fault Refusal :=
  .next (s.onMain State.replySent)

/-- UNKNOWN_REQUEST (R184); a kind in the list of 12.4 makes no such event. -/
def execUnknownRequest (kind : Byte) (tag : Byte) (s : State) : Host.Outcome State Fault Refusal :=
  .next (if listedKind kind then s else s.serve kind tag State.reqUnknown)

/-- STATUS (R193). -/
def execStatus (tag : Byte) (s : State) : Host.Outcome State Fault Refusal :=
  .next (s.serve 0x01 tag State.reqStatus)

/-- TAKE_NOTICE (R195). -/
def execTakeNotice (tag : Byte) (s : State) : Host.Outcome State Fault Refusal :=
  .next (s.serve 0x78 tag State.reqTakeNotice)

/-- RESTART (R192). -/
def execRestart (tag : Byte) (s : State) : Host.Outcome State Fault Refusal :=
  .next (s.serve 0x7F tag State.reqRestart)

/-- FRAME_BYTE_RECEIVED (R181). -/
def execFrameByteReceived (byte : Byte) (writeOk : Bool) (s : State) :
    Host.Outcome State Fault Refusal :=
  .next (s.receive byte writeOk)

end Sys2Proof.Machine
end

