-- ==== Sys2Proof/Machine/PlanCommands.lean ====
section
/-! DEFINITION. The commands of plans (chapter 8). -/

namespace Sys2Proof.Machine

/-- PLAN_STORE_COMPLETE (R123). -/
def execPlanStoreComplete (ok : Bool) (s : State) : Host.Outcome State Fault Refusal :=
  .next (s.onMain fun t => if t.inFlight .planStore then t.storeDone t.opSlot ok else t)

/-- PLAN_LOAD_COMPLETE (R125). -/
def execPlanLoadComplete (ok : Bool) (s : State) : Host.Outcome State Fault Refusal :=
  .next (s.onMain fun t => if t.inFlight .planLoad then t.loadDone t.opSlot ok else t)

/-- PUT_PLAN_HEADER (R115). -/
def execPutPlanHeader (tag : Byte) (name : List Byte) (count : Nat) (method : Nat) (s : State) :
    Host.Outcome State Fault Refusal :=
  .next (s.serve 0x50 tag fun t => t.reqPutHeader name count method)

/-- PUT_VERTICAL (R116). -/
def execPutVertical (tag : Byte) (index : Nat) (entry : VertForm) (s : State) :
    Host.Outcome State Fault Refusal :=
  .next (s.serve 0x51 tag fun t => t.reqPutVertical index entry)

/-- VALIDATE_PLAN (R118). -/
def execValidatePlan (tag : Byte) (s : State) : Host.Outcome State Fault Refusal :=
  .next (s.serve 0x52 tag State.reqValidate)

/-- GET_PLAN (R119). -/
def execGetPlan (tag : Byte) (start : Nat) (s : State) : Host.Outcome State Fault Refusal :=
  .next (s.serve 0x53 tag fun t => t.reqGetPlan start)

/-- STORE_PLAN (R122). -/
def execStorePlan (tag : Byte) (slot : Nat) (s : State) : Host.Outcome State Fault Refusal :=
  .next (s.serve 0x54 tag fun t => t.reqStorePlan slot)

/-- LOAD_PLAN (R124). -/
def execLoadPlan (tag : Byte) (slot : Nat) (s : State) : Host.Outcome State Fault Refusal :=
  .next (s.serve 0x55 tag fun t => t.reqLoadPlan slot)

end Sys2Proof.Machine
end

