-- ==== Sys2Proof/Machine/RatingCommands.lean ====
section
/-! DEFINITION. The commands of the rating table (chapter 5). -/

namespace Sys2Proof.Machine

/-- RATING_COMMIT_COMPLETE (R77). -/
def execRatingCommitComplete (ok : Bool) (s : State) : Host.Outcome State Fault Refusal :=
  .next (s.onMain fun t => if t.inFlight .rating then t.commitDone ok else t)

/-- PUT_RATING_ROW (R73). -/
def execPutRatingRow (tag : Byte) (index : Nat) (stage : Int) (discharge : Int) (s : State) :
    Host.Outcome State Fault Refusal :=
  .next (s.serve 0x30 tag fun t => t.reqPutRow index stage discharge)

/-- CLEAR_RATING_STAGING (R74). -/
def execClearRatingStaging (tag : Byte) (s : State) : Host.Outcome State Fault Refusal :=
  .next (s.serve 0x31 tag State.reqClearStaging)

/-- GET_RATING (R74). -/
def execGetRating (tag : Byte) (table : Nat) (s : State) : Host.Outcome State Fault Refusal :=
  .next (s.serve 0x32 tag fun t => t.reqGetRating table)

/-- COMMIT_RATING (R75). -/
def execCommitRating (tag : Byte) (s : State) : Host.Outcome State Fault Refusal :=
  .next (s.serve 0x33 tag State.reqCommit)

end Sys2Proof.Machine
end

