-- ==== Sys2Proof/Machine/RecordCommands.lean ====
section
/-! DEFINITION. The commands of the record memory (chapter 11). -/

namespace Sys2Proof.Machine

/-- ARCHIVE_SEEK_OLDEST (R176). -/
def execArchiveSeekOldest (tag : Byte) (s : State) : Host.Outcome State Fault Refusal :=
  .next (s.serve 0x70 tag State.reqSeekOldest)

/-- ARCHIVE_SEEK_NEWEST (R176). -/
def execArchiveSeekNewest (tag : Byte) (s : State) : Host.Outcome State Fault Refusal :=
  .next (s.serve 0x70 tag State.reqSeekNewest)

/-- ARCHIVE_SEEK_SEQ (R176). -/
def execArchiveSeekSeq (tag : Byte) (n : BitVec 32) (s : State) :
    Host.Outcome State Fault Refusal :=
  .next (s.serve 0x70 tag fun u => u.reqSeekSeq n.toNat)

/-- ARCHIVE_SEEK_TIME (R176). -/
def execArchiveSeekTime (tag : Byte) (t : BitVec 32) (s : State) :
    Host.Outcome State Fault Refusal :=
  .next (s.serve 0x70 tag fun u => u.reqSeekTime t.toNat)

/-- ARCHIVE_READ_FORWARD (R177). -/
def execArchiveReadForward (tag : Byte) (count : Nat) (s : State) :
    Host.Outcome State Fault Refusal :=
  .next (s.serve 0x71 tag fun t => t.reqReadForward count)

/-- ARCHIVE_READ_BACKWARD (R178). -/
def execArchiveReadBackward (tag : Byte) (count : Nat) (s : State) :
    Host.Outcome State Fault Refusal :=
  .next (s.serve 0x71 tag fun t => t.reqReadBackward count)

/-- ARCHIVE_READ_HOLD (R177). -/
def execArchiveReadHold (tag : Byte) (count : Nat) (s : State) : Host.Outcome State Fault Refusal :=
  .next (s.serve 0x71 tag fun t => t.reqReadHold count)

/-- RESULT_READ_HEADER (R180). -/
def execResultReadHeader (tag : Byte) (slot : SlotName) (s : State) :
    Host.Outcome State Fault Refusal :=
  .next (s.serve 0x72 tag fun t => t.reqResultHeader slot)

/-- RESULT_READ_VERTICALS (R180). -/
def execResultReadVerticals (tag : Byte) (slot : SlotName) (start : Nat) (s : State) :
    Host.Outcome State Fault Refusal :=
  .next (s.serve 0x72 tag fun t => t.reqResultVerticals slot start)

end Sys2Proof.Machine
end

