-- ==== Sys2Proof/Machine/RunCommands.lean ====
section
/-! DEFINITION. The commands of gauging runs (chapter 9). -/

namespace Sys2Proof.Machine

/-- EXPOSURE_START (R137). -/
def execExposureStart (s : State) : Host.Outcome State Fault Refusal :=
  .next (s.onMain State.startExposure)

/-- EXPOSURE_EXPIRY (R137). -/
def execExposureExpiry (s : State) : Host.Outcome State Fault Refusal :=
  .next (s.onMain State.endExposure)

/-- HOLD_LIMIT_EXPIRY (R144). -/
def execHoldLimitExpiry (s : State) : Host.Outcome State Fault Refusal :=
  .next (s.onMain State.holdExpired)

/-- START_RUN (R127). -/
def execStartRun (tag : Byte) (s : State) : Host.Outcome State Fault Refusal :=
  .next (s.serve 0x60 tag State.reqStartRun)

/-- HOLD_RUN (R145). -/
def execHoldRun (tag : Byte) (s : State) : Host.Outcome State Fault Refusal :=
  .next (s.serve 0x61 tag State.reqHold)

/-- RESUME_RUN (R146). -/
def execResumeRun (tag : Byte) (s : State) : Host.Outcome State Fault Refusal :=
  .next (s.serve 0x62 tag State.reqResume)

/-- ABORT_RUN (R147). -/
def execAbortRun (tag : Byte) (s : State) : Host.Outcome State Fault Refusal :=
  .next (s.serve 0x63 tag State.reqAbort)

end Sys2Proof.Machine
end

