-- ==== Sys2Proof/Machine/SamplingCommands.lean ====
section
/-! DEFINITION. The commands of the grid and stage (chapters 3 and 4). -/

namespace Sys2Proof.Machine

/-- GRID_INSTANT (R62). -/
def execGridInstant (s : State) : Host.Outcome State Fault Refusal :=
  .next (s.onMain State.gridInstant)

/-- GET_STAGE (R68). -/
def execGetStage (tag : Byte) (s : State) : Host.Outcome State Fault Refusal :=
  .next (s.serve 0x02 tag State.reqGetStage)

/-- SET_REFERENCE_SHAFT (R41). -/
def execSetReferenceShaft (tag : Byte) (staff : Int) (s : State) :
    Host.Outcome State Fault Refusal :=
  .next (s.serve 0x28 tag fun t => t.reqReferenceShaft staff)

/-- SET_REFERENCE_PRESSURE (R42). -/
def execSetReferencePressure (tag : Byte) (staff : Int) (s : State) :
    Host.Outcome State Fault Refusal :=
  .next (s.serve 0x28 tag fun t => t.reqReferencePressure staff)

end Sys2Proof.Machine
end

