-- ==== Sys2Proof/Machine/SettingCommands.lean ====
section
/-! DEFINITION. The commands of settings and identity (chapter 12). -/

namespace Sys2Proof.Machine

/-- SETTINGS_STORE_COMPLETE (R190). -/
def execSettingsStoreComplete (ok : Bool) (s : State) : Host.Outcome State Fault Refusal :=
  .next (s.onMain fun t => if t.inFlight .settings then t.settingsDone ok else t)

/-- GET_SETTING (R188). -/
def execGetSetting (tag : Byte) (id : BitVec 16) (s : State) : Host.Outcome State Fault Refusal :=
  .next (s.serve 0x20 tag fun t => t.reqGetSetting id)

/-- PUT_SETTING (R189). -/
def execPutSetting (tag : Byte) (id : BitVec 16) (value : Option Int) (s : State) :
    Host.Outcome State Fault Refusal :=
  .next (s.serve 0x21 tag fun t => t.reqPutSetting id value)

/-- STORE_SETTINGS (R190). -/
def execStoreSettings (tag : Byte) (s : State) : Host.Outcome State Fault Refusal :=
  .next (s.serve 0x22 tag State.reqStoreSettings)

/-- SET_IDENTITY (R191). -/
def execSetIdentity (tag : Byte) (number : BitVec 16) (writeOk : Bool) (s : State) :
    Host.Outcome State Fault Refusal :=
  .next (s.serve 0x7E tag fun t => t.reqSetIdentity number.toNat writeOk)

end Sys2Proof.Machine
end

