-- ==== Sys2Proof/Machine/SupplyCommands.lean ====
section
/-! DEFINITION. The commands of the supply and RESET (chapters 0 and 2). -/

namespace Sys2Proof.Machine

/-- COLD_RESET (R1). -/
def execColdReset (s : State) : Host.Outcome State Fault Refusal :=
  .next s.cold

/-- WARM_SUPPLY_RETURN (R1). -/
def execWarmSupplyReturn (s : State) : Host.Outcome State Fault Refusal :=
  .next (s.warm .warmSupply)

/-- RESET_INPUT_PULSE (R1). -/
def execResetInputPulse (s : State) : Host.Outcome State Fault Refusal :=
  .next s.resetPulse

/-- POWER_GOOD_LOSS (R34). -/
def execPowerGoodLoss (s : State) : Host.Outcome State Fault Refusal :=
  .next s.losePower

end Sys2Proof.Machine
end

