-- ==== Sys2Proof/Machine/WarningCommands.lean ====
section
/-! DEFINITION. The commands of the cadence and the acknowledgement (chapter 6). -/

namespace Sys2Proof.Machine

/-- CADENCE_SLOT (R92). -/
def execCadenceSlot (s : State) : Host.Outcome State Fault Refusal :=
  .next (s.onMain State.nextSlot)

/-- ACK_WARNING (R95). -/
def execAckWarning (tag : Byte) (level : Nat) (s : State) : Host.Outcome State Fault Refusal :=
  .next (s.serve 0x38 tag fun t => t.reqAck level)

end Sys2Proof.Machine
end

