-- ==== Sys2Proof/Machine/Dispatch.lean ====
section
/-! DEFINITION. One arm per command, each one call of its meaning. -/

namespace Sys2Proof.Machine

def exec (i : Instr) (s : State) : Host.Outcome State Fault Refusal :=
  match i with
  | .coldReset => Sys2Proof.Machine.execColdReset s
  | .warmSupplyReturn => Sys2Proof.Machine.execWarmSupplyReturn s
  | .resetInputPulse => Sys2Proof.Machine.execResetInputPulse s
  | .powerGoodLoss => Sys2Proof.Machine.execPowerGoodLoss s
  | .secondEvent => Sys2Proof.Machine.execSecondEvent s
  | .windowClose count => Sys2Proof.Machine.execWindowClose count s
  | .multiplierLock => Sys2Proof.Machine.execMultiplierLock s
  | .gridInstant => Sys2Proof.Machine.execGridInstant s
  | .pressureEdge b => Sys2Proof.Machine.execPressureEdge b s
  | .pressureComplete b => Sys2Proof.Machine.execPressureComplete b s
  | .pressureTimeout => Sys2Proof.Machine.execPressureTimeout s
  | .quadratureTransition ch a b => Sys2Proof.Machine.execQuadratureTransition ch a b s
  | .floatIndexEdge => Sys2Proof.Machine.execFloatIndexEdge s
  | .rotorEdge elapsed => Sys2Proof.Machine.execRotorEdge elapsed s
  | .contactRawChange input level elapsed => Sys2Proof.Machine.execContactRawChange input level elapsed s
  | .debounceExpiry input => Sys2Proof.Machine.execDebounceExpiry input s
  | .driveStall => Sys2Proof.Machine.execDriveStall s
  | .settleEnd => Sys2Proof.Machine.execSettleEnd s
  | .exposureStart => Sys2Proof.Machine.execExposureStart s
  | .exposureExpiry => Sys2Proof.Machine.execExposureExpiry s
  | .holdLimitExpiry => Sys2Proof.Machine.execHoldLimitExpiry s
  | .cadenceSlot => Sys2Proof.Machine.execCadenceSlot s
  | .ratingCommitComplete ok => Sys2Proof.Machine.execRatingCommitComplete ok s
  | .settingsStoreComplete ok => Sys2Proof.Machine.execSettingsStoreComplete ok s
  | .planStoreComplete ok => Sys2Proof.Machine.execPlanStoreComplete ok s
  | .planLoadComplete ok => Sys2Proof.Machine.execPlanLoadComplete ok s
  | .frameInterbyteTimeout => Sys2Proof.Machine.execFrameInterbyteTimeout s
  | .frameLengthInvalid => Sys2Proof.Machine.execFrameLengthInvalid s
  | .frameByteFramingError => Sys2Proof.Machine.execFrameByteFramingError s
  | .frameCrcMismatch => Sys2Proof.Machine.execFrameCrcMismatch s
  | .replySent => Sys2Proof.Machine.execReplySent s
  | .unknownRequest kind tag => Sys2Proof.Machine.execUnknownRequest kind tag s
  | .status tag => Sys2Proof.Machine.execStatus tag s
  | .getStage tag => Sys2Proof.Machine.execGetStage tag s
  | .getTime tag => Sys2Proof.Machine.execGetTime tag s
  | .setTime tag value => Sys2Proof.Machine.execSetTime tag value s
  | .setClockSourceCrystal tag => Sys2Proof.Machine.execSetClockSourceCrystal tag s
  | .setClockSourceRc tag => Sys2Proof.Machine.execSetClockSourceRc tag s
  | .getSetting tag id => Sys2Proof.Machine.execGetSetting tag id s
  | .putSetting tag id value => Sys2Proof.Machine.execPutSetting tag id value s
  | .storeSettings tag => Sys2Proof.Machine.execStoreSettings tag s
  | .setReferenceShaft tag staff => Sys2Proof.Machine.execSetReferenceShaft tag staff s
  | .setReferencePressure tag staff => Sys2Proof.Machine.execSetReferencePressure tag staff s
  | .putRatingRow tag index stage discharge => Sys2Proof.Machine.execPutRatingRow tag index stage discharge s
  | .clearRatingStaging tag => Sys2Proof.Machine.execClearRatingStaging tag s
  | .getRating tag table => Sys2Proof.Machine.execGetRating tag table s
  | .commitRating tag => Sys2Proof.Machine.execCommitRating tag s
  | .ackWarning tag level => Sys2Proof.Machine.execAckWarning tag level s
  | .setCaptureArm tag lines notice => Sys2Proof.Machine.execSetCaptureArm tag lines notice s
  | .setCaptureDisarm tag lines => Sys2Proof.Machine.execSetCaptureDisarm tag lines s
  | .setCaptureSelect tag lines polarity => Sys2Proof.Machine.execSetCaptureSelect tag lines polarity s
  | .readLines tag => Sys2Proof.Machine.execReadLines tag s
  | .jogTravelPosition tag x => Sys2Proof.Machine.execJogTravelPosition tag x s
  | .jogTravelHome tag => Sys2Proof.Machine.execJogTravelHome tag s
  | .jogReelPayout tag x => Sys2Proof.Machine.execJogReelPayout tag x s
  | .jogReelTop tag => Sys2Proof.Machine.execJogReelTop tag s
  | .stop tag => Sys2Proof.Machine.execStop tag s
  | .putPlanHeader tag name count method => Sys2Proof.Machine.execPutPlanHeader tag name count method s
  | .putVertical tag index entry => Sys2Proof.Machine.execPutVertical tag index entry s
  | .validatePlan tag => Sys2Proof.Machine.execValidatePlan tag s
  | .getPlan tag start => Sys2Proof.Machine.execGetPlan tag start s
  | .storePlan tag slot => Sys2Proof.Machine.execStorePlan tag slot s
  | .loadPlan tag slot => Sys2Proof.Machine.execLoadPlan tag slot s
  | .startRun tag => Sys2Proof.Machine.execStartRun tag s
  | .holdRun tag => Sys2Proof.Machine.execHoldRun tag s
  | .resumeRun tag => Sys2Proof.Machine.execResumeRun tag s
  | .abortRun tag => Sys2Proof.Machine.execAbortRun tag s
  | .archiveSeekOldest tag => Sys2Proof.Machine.execArchiveSeekOldest tag s
  | .archiveSeekNewest tag => Sys2Proof.Machine.execArchiveSeekNewest tag s
  | .archiveSeekSeq tag n => Sys2Proof.Machine.execArchiveSeekSeq tag n s
  | .archiveSeekTime tag t => Sys2Proof.Machine.execArchiveSeekTime tag t s
  | .archiveReadForward tag count => Sys2Proof.Machine.execArchiveReadForward tag count s
  | .archiveReadBackward tag count => Sys2Proof.Machine.execArchiveReadBackward tag count s
  | .archiveReadHold tag count => Sys2Proof.Machine.execArchiveReadHold tag count s
  | .resultReadHeader tag slot => Sys2Proof.Machine.execResultReadHeader tag slot s
  | .resultReadVerticals tag slot start => Sys2Proof.Machine.execResultReadVerticals tag slot start s
  | .takeNotice tag => Sys2Proof.Machine.execTakeNotice tag s
  | .setIdentity tag number writeOk => Sys2Proof.Machine.execSetIdentity tag number writeOk s
  | .restart tag => Sys2Proof.Machine.execRestart tag s
  | .frameByteReceived byte writeOk => Sys2Proof.Machine.execFrameByteReceived byte writeOk s

end Sys2Proof.Machine
end

