-- ==== Sys2Proof/Safety.lean ====
section
/-! DEFINITION. What the statements speak of: a part ready to take a request, the state that a reply
leaves, and the invariants of a safe run, unit by unit. -/

namespace Sys2Proof.Machine

open Sys2Proof.Config

/-! Requests and replies. -/

/-- The Link Unit takes a request: powered, with no reply in progress (R183). -/
abbrev State.ready (s : State) : Prop := s.powered = true ∧ s.link.reply = none

/-- The state that an accepted request leaves when it changes nothing but the reply in progress
(R181, R183). -/
def State.replied (s : State) (kind tag : Byte) (code : ReplyCode) (body : ReplyBody) : State :=
  { s with
    link := { s.link with
      rx := .hunt, reply := some { kind := kind, tag := tag, code := code, body := body } } }

/-- A list of commands carried out one after the other, while each answers a next state. -/
def execAll : List Instr → State → Host.Outcome State Fault Refusal
  | [], s => .next s
  | c :: rest, s =>
    match exec c s with
    | .next t => execAll rest t
    | .fault f => .fault f
    | .refused r => .refused r

/-- A request whose flash outcome, if it has one, is the one given. -/
def writesAs (i : Instr) (ok : Bool) : Prop :=
  match i with
  | .setIdentity _ _ o => o = ok
  | _ => True

/-! What the statements about resets and pairs speak of. -/

/-- The place of a pair of levels in the forward order 00, 10, 11, 01 (R20). -/
def pairPlace : Bool → Bool → Nat
  | false, false => 0
  | true, false => 1
  | true, true => 2
  | false, true => 3

/-- The transitions a multiplier counts, by the table of R20: ×4 all of them, ×2 those of A, ×1 those
of A while B is low. -/
def countedBy (mult : Nat) (aChanges b : Bool) : Prop :=
  mult = 4 ∨ (mult = 2 ∧ aChanges = true) ∨ (mult = 1 ∧ aChanges = true ∧ b = false)

/-- All eight outputs deasserted (R34). -/
def Outputs.none : Outputs :=
  { travelFwd := false, travelRev := false, reelDown := false, reelUp := false, speedSlow := false,
    siren := false, beacon := false, attn := false }

/-- The five drive outputs deasserted (R102). -/
def Outputs.driveStill (o : Outputs) : Prop :=
  o.travelFwd = false ∧ o.travelRev = false ∧ o.reelDown = false ∧ o.reelUp = false ∧
  o.speedSlow = false

/-- A result closed at a reset: ABORTED with reason POWER, the end time given, no end stage, nothing of
the end computation; its vertical records stand (R149, R165). -/
def RunResult.poweredOff (r : RunResult) (endTime : Option RunTime) : RunResult :=
  { r with
    header :=
      { r.header with
        status := .aborted, abortReason := some .power, endTime := endTime, endStage := none
        meanStage := none, discharge := none, area := none, meanVelocity := none
        ratingFlow := none, generation := none, deviation := none, interpCount := none
        flags := { r.header.flags with poor := false, unsteady := false, order := false } } }

/-- The plan slots as a reset judges them: a slot stays STORED when its check value matches its content
and the content lies within the ranges of R114, and is EMPTY otherwise (R122). -/
def State.slotsJudged (s t : State) : Prop :=
  t.plan.slots.length = s.plan.slots.length ∧
  ∀ (k : Nat) (p : PlanSlot), t.plan.slots[k]? = some (some p) ↔
    s.plan.slots[k]? = some (some p) ∧ p.check = checkValue p.plan.numbers ∧
      p.plan.legal = true

/-- A row whose values lie in their ranges (5.1). -/
abbrev Row.sound (r : Row) : Prop :=
  stageMin ≤ r.stage ∧ r.stage ≤ stageMax ∧ 0 ≤ r.flow ∧ r.flow ≤ dischargeMax

/-- A table in the order that R69 gives the active table. -/
abbrev tableOrdered (rows : List Row) : Prop :=
  2 ≤ rows.length ∧ rows.length ≤ 24 ∧
  rows.Pairwise (fun a b => a.stage < b.stage ∧ a.flow ≤ b.flow) ∧ ∀ r ∈ rows, r.sound

/-- The stored copies as a reset judges them: the rating stays VALID when its check value matches and its
rows meet the conditions of an active table (R69), the settings when their check value matches and every
value lies within its range and list (R190); either is INVALID, absent here, otherwise. -/
def State.copiesJudged (s t : State) : Prop :=
  (∀ c : StoredRating, t.rating.stored = some c ↔
    s.rating.stored = some c ∧ c.check = ratingCheckValue (ratingNumbers c.rows c.generation) ∧
      tableOrdered c.rows) ∧
  ∀ c : StoredSettings, t.stored = some c ↔
    s.stored = some c ∧ c.check = settingsCheckValue c.settings.numbers ∧
      c.settings.vals.length = 99 ∧ ∀ i : SettingId, i.kind.legal (c.settings.get i) = true

/-- The run phase, the drive, the plan buffer, the link and the captures as both kinds of reset leave
them, the stored copies judged, what is loaded from them, and the stores that no reset changes
(R69, R79, R102, R117, R122, R149, R175, R181, R183, R190 to R192). -/
def State.startedAs (s t : State) (k : ResetKind) : Prop :=
  t.powered = true ∧ s.copiesJudged t ∧ t.settings = (t.stored.map (·.settings)).getD .defaults ∧
  t.lock = .unlocked t.ticks ∧
  t.press = .idle ∧ t.rotor.counting = false ∧ t.rotor.count = 0 ∧ t.samp.forming = none ∧
  t.samp.rate = none ∧ t.stage.meas = none ∧ t.run.phase = .idle ∧ t.run.causes = .none ∧
  t.run.snap = none ∧ t.marker.active = false ∧ t.drive.state = .idle ∧ t.drive.fault = none ∧
  t.drive.travelRef = false ∧ t.drive.reelRef = false ∧ t.outs.driveStill ∧
  t.plan.buffer = .empty ∧ t.plan.header = none ∧ s.slotsJudged t ∧
  t.flash.op = none ∧ t.rating.active = (t.rating.stored.map (·.rows)).getD [] ∧
  t.rating.generation = (t.rating.stored.map (·.generation)).getD 0 ∧ t.rating.staging = [] ∧
  t.rating.image = none ∧ t.recmem.recs = s.recmem.recs ∧ t.recmem.next = s.recmem.next ∧
  t.recmem.cursor = none ∧ t.recmem.overrun = false ∧
  t.identity = s.identity ∧ t.warn.slot = 0 ∧ t.link.rx = .hunt ∧ t.link.reply = none ∧
  t.link.resetItem = some k ∧ t.outs.attn = true ∧
  (∀ i, (t.contacts.get i).raw = (s.contacts.get i).raw ∧
    t.level i = (s.contacts.get i).raw ∧ (t.contacts.get i).armed = false ∧
    (t.contacts.get i).captured = false) ∧
  t.link.queue.head? = some (.power
    { kind := k, storedSettings := t.stored.isSome, ratingValid := t.rating.stored.isSome,
      identitySet := s.identity.isSome, mono := t.time.mono, calendar := t.time.calendar })

/-! The timebase (R4, R6, R9, R13). -/

/-- The counts of the Timebase Unit lie in their ranges; a switch is pending only on RC, and a stopped
monitor keeps no counts. -/
abbrev Timebase.sound (t : Timebase) : Prop :=
  t.subSecond < ticksPerSecond ∧ t.mono ≤ max32 ∧ t.calendar.getD 0 ≤ max32 ∧
  t.bad < badWindows ∧ t.recent.length ≤ 2 ∧
  (t.source = .crystal → t.pending = none) ∧
  (t.pending.map (·.good)).getD 0 < goodWindows ∧
  (t.pending.map (·.closed)).getD 0 < switchWindows ∧
  (t.source = .rc → t.pending = none → t.bad = 0 ∧ t.recent = [])

/-! Counts (2.1, R21, R26). -/

/-- A quadrature channel's count and tally lie in their ranges. -/
abbrev Quad.sound (q : Quad) : Prop := countMin ≤ q.count ∧ q.count ≤ countMax ∧ q.tally ≤ max16

/-- Every count channel lies in its range. -/
abbrev State.countsSound (s : State) : Prop :=
  s.float.sound ∧ s.travel.sound ∧ s.reel.sound ∧ s.rotor.count ≤ max16

/-! The drive (R102, R104 to R106). -/

/-- The five drive outputs that a drive state asserts (R102, R105, R106). -/
def DriveState.outputs (d : DriveState) (o : Outputs) : Outputs :=
  match d with
  | .moving m =>
    { o with
      travelFwd := decide (m.axis = .travel ∧ m.forward = true)
      travelRev := decide (m.axis = .travel ∧ m.forward = false)
      reelDown := decide (m.axis = .reel ∧ m.forward = true)
      reelUp := decide (m.axis = .reel ∧ m.forward = false)
      speedSlow := m.slowPhase }
  | _ =>
    { o with travelFwd := false, travelRev := false, reelDown := false, reelUp := false,
             speedSlow := false }

/-- Whether a travel move is in flight (R104). -/
def DriveState.travelling (d : DriveState) : Bool :=
  match d.move? with
  | some m => decide (m.axis = .travel)
  | none => false

/-- The outputs are those of the drive state while powered, and all deasserted otherwise; a travel
move is in flight only with the weight at the top. -/
abbrev State.driveSound (s : State) : Prop :=
  s.outs = (if s.powered then s.drive.state.outputs s.outs else .off) ∧
  (s.drive.state.travelling = true → s.level .reelTop = true)

/-! Notices (R194, R195). -/

/-- One entry of a kind at most, and ATTN follows the queue while powered. -/
abbrev State.noticesSound (s : State) : Prop :=
  (s.link.queue.map Notice.kind).Nodup ∧
  (s.powered = true → s.outs.attn = !s.link.queue.isEmpty) ∧
  (s.powered = false → s.outs = .off)

/-! Runs and lockout (R141). -/

/-- A phase in which the hold cause set follows lockout (R141). -/
def Phase.holdable (p : Phase) : Bool :=
  p.working || decide (p = .holdRetract) || decide (p = .hold)

/-- The set carries LOCKOUT exactly while lockout is active; no working phase runs with it; an
exposure exists only in EXPOSE. -/
abbrev State.lockoutSound (s : State) : Prop :=
  (s.run.phase.holdable = true → s.run.causes.lockout = s.lockout) ∧
  (s.run.phase.working = true → s.run.causes.lockout = false) ∧
  (s.run.exposure ≠ .none → s.run.phase = .expose)

/-! Warning (R82, R85, R86, R92, R95). -/

/-- A level's counters lie in their ranges, and only an enabled level is latched. -/
abbrev LevelCell.sound (c : LevelCell) (l : LevelSettings) : Prop :=
  c.entry ≤ 10 ∧ c.exit ≤ 20 ∧ (c.latched = true → l.enabled = true)

/-- The Warning Unit's counts lie in their ranges, the latched levels are exactly the enabled levels
up to the current one, and the acknowledged level is never above the current one. -/
abbrev State.warningSound (s : State) : Prop :=
  s.warn.watch.sound s.settings.watch ∧ s.warn.warning.sound s.settings.warning ∧
  s.warn.severe.sound s.settings.severe ∧
  (s.settings.watch.enabled = true → Level.watch.code < s.warn.current.code →
    s.warn.watch.latched = true) ∧
  (s.settings.warning.enabled = true → Level.warning.code < s.warn.current.code →
    s.warn.warning.latched = true) ∧
  s.warn.slot < 16 ∧ s.warn.ack.code ≤ s.warn.current.code

/-! Rating (5.1, R69, R73). -/

/-- A copy of a table that may be absent is ordered. -/
def copyOrdered (rows : Option (List Row)) : Bool :=
  match rows with
  | some l => decide (tableOrdered l)
  | none => true

/-- The active table is empty or ordered, the stored copy and the commit image are ordered, and the
staging table has at most 24 rows. -/
abbrev RatingUnit.sound (u : RatingUnit) : Prop :=
  (u.active = [] ∨ tableOrdered u.active) ∧ u.generation ≤ max16 ∧
  copyOrdered (u.stored.map (·.rows)) = true ∧ (u.stored.map (·.generation)).getD 0 ≤ max16 ∧
  copyOrdered u.image = true ∧
  u.staging.length ≤ 24 ∧ ∀ r ∈ u.staging, r.sound

/-! The archive and the result slots (R169, R172, R175). -/

/-- Whether a cursor is END or names a record held (R175). -/
def RecordMemory.cursorHeld (r : RecordMemory) : Bool :=
  match r.cursor with
  | some c => decide (r.next - r.recs.length ≤ c) && decide (c < r.next)
  | none => true

/-- At most 8 000 records, numbered one after the other up to `next`; the cursor names a record held;
eight result slots. -/
abbrev RecordMemory.sound (r : RecordMemory) : Prop :=
  r.recs.length ≤ archiveSize ∧ r.recs.length ≤ r.next ∧ r.next ≤ max32 + 1 ∧
  r.recs.map (·.seq) = List.range' (r.next - r.recs.length) r.recs.length ∧
  r.cursorHeld = true ∧
  r.slots.length = 8

/-! The reported stage and the history (R39, R52, R53, R66). -/

/-- A stage, when present, lies in its range (R39). -/
def stageInRange : Option Int → Bool
  | none => true
  | some v => decide (stageMin ≤ v) && decide (v ≤ stageMax)

/-- The reported stage is absent exactly when MISSING, and in range; the last value is the reported
one while there is one; the history holds at most 64 stages in range. -/
abbrev State.stageSound (s : State) : Prop :=
  (s.stage.reported.value = none ↔ s.stage.reported.quality = .missing) ∧
  s.stage.lastValue = s.stage.reported.value ∧ stageInRange s.stage.lastValue = true ∧
  s.history.length ≤ historySize ∧ (∀ e ∈ s.history, stageInRange (some e.2) = true)

/-! Settings (R3, R39, R56, R81, R126, R151, R190). -/

/-- Every setting lies in its range or list, and the structural checks of the owners hold. -/
def Settings.sound (t : Settings) : Bool :=
  decide (t.vals.length = 99) && allSettings.all (fun i => i.kind.legal (t.get i)) &&
  t.gridFits && decide (t.num .pressureFMin < t.num .pressureFMax) &&
  ascending [t.get .watchStageOn, t.get .warningStageOn, t.get .severeStageOn] &&
  ascending [t.get .watchRiseOn, t.get .warningRiseOn, t.get .severeRiseOn] &&
  ascending [t.get .watchFlowOn, t.get .warningFlowOn, t.get .severeFlowOn] &&
  t.depthsFit && decide (t.num .meterBreak1 < t.num .meterBreak2)

/-- The settings in use, stored and on their way to flash are sound, and O_p lies in its range. -/
abbrev State.settingsSound (s : State) : Prop :=
  s.settings.sound = true ∧ (s.stored.map fun c => c.settings.sound).getD true = true ∧
  (s.flash.settingsImage.map Settings.sound).getD true = true ∧
  -99999999 ≤ s.stage.pressOffset ∧ s.stage.pressOffset ≤ 99999999

/-! Plans (R117, R118). -/

/-- A VALID buffer has no fault under the present position_tolerance; the buffer has 32 entries and
the store six slots. -/
abbrev State.planSound (s : State) : Prop :=
  (s.plan.buffer = .valid →
    planFault (s.num .positionTolerance) s.plan.header s.plan.entries = none) ∧
  s.plan.entries.length = 32 ∧ s.plan.slots.length = 6

end Sys2Proof.Machine
end

