-- ==== Sys2Proof/WellFormed.lean ====
section
/-! DEFINITION. The commands that can arrive: a request whose fields fit the bytes of its payload
(R181, R186), an unlisted kind for UNKNOWN_REQUEST (R184), a counter B the channel can hold (R27). -/

namespace Sys2Proof

/-- A number that one unsigned byte holds. -/
def fitsU8 (n : Nat) : Bool := decide (n < 256)

/-- A number that two unsigned bytes hold. -/
def fitsU16 (x : Int) : Bool := decide (0 ≤ x) && decide (x < 65536)

/-- A number that four unsigned bytes hold. -/
def fitsU32 (x : Int) : Bool := decide (0 ≤ x) && decide (x < 4294967296)

/-- A number that two bytes of two's complement hold. -/
def fitsI16 (x : Int) : Bool := decide (-32768 ≤ x) && decide (x < 32768)

/-- A number that four bytes of two's complement hold. -/
def fitsI32 (x : Int) : Bool := decide (-2147483648 ≤ x) && decide (x < 2147483648)

/-- An entry of PUT_VERTICAL whose fields fit their bytes (R116). -/
def VertForm.wf : VertForm → Bool
  | .edge x d c => fitsI32 x && fitsU16 d && fitsU16 c
  | .metered x m t r =>
    fitsI32 x && fitsU8 m && fitsU16 t && decide (0 ≤ r) && decide (r < 256)

/-- A slot of RESULT_READ that fits its byte (R180). -/
def SlotName.wf : SlotName → Bool
  | .number n => fitsU8 n
  | .newest => true

/-- Whether a command is one that can arrive. -/
def Instr.wf : Instr → Bool
  | .pressureEdge b => decide (b ≤ 8388608)
  | .pressureComplete b => decide (1 ≤ b) && decide (b ≤ 8388608)
  | .unknownRequest kind _ => !listedKind kind
  | .putSetting _ _ v => (v.map fitsI32).getD true
  | .setReferenceShaft _ x => fitsI16 x
  | .setReferencePressure _ x => fitsI16 x
  | .putRatingRow _ i h q => fitsU8 i && fitsI16 h && fitsU32 q
  | .getRating _ t => fitsU8 t
  | .ackWarning _ l => fitsU8 l
  | .jogTravelPosition _ x => fitsI32 x
  | .jogReelPayout _ x => fitsI32 x
  | .putPlanHeader _ n c m => decide (n.length ≤ 237) && fitsU8 c && fitsU8 m
  | .putVertical _ i e => fitsU8 i && e.wf
  | .getPlan _ i => fitsU8 i
  | .storePlan _ n => fitsU8 n
  | .loadPlan _ n => fitsU8 n
  | .archiveReadForward _ n => fitsU8 n
  | .archiveReadBackward _ n => fitsU8 n
  | .archiveReadHold _ n => fitsU8 n
  | .resultReadHeader _ s => s.wf
  | .resultReadVerticals _ s i => s.wf && fitsU8 i
  | .coldReset => true
  | .warmSupplyReturn => true
  | .resetInputPulse => true
  | .powerGoodLoss => true
  | .secondEvent => true
  | .windowClose _ => true
  | .multiplierLock => true
  | .gridInstant => true
  | .pressureTimeout => true
  | .quadratureTransition _ _ _ => true
  | .floatIndexEdge => true
  | .rotorEdge _ => true
  | .contactRawChange _ _ _ => true
  | .debounceExpiry _ => true
  | .driveStall => true
  | .settleEnd => true
  | .exposureStart => true
  | .exposureExpiry => true
  | .holdLimitExpiry => true
  | .cadenceSlot => true
  | .ratingCommitComplete _ => true
  | .settingsStoreComplete _ => true
  | .planStoreComplete _ => true
  | .planLoadComplete _ => true
  | .frameInterbyteTimeout => true
  | .frameLengthInvalid => true
  | .frameByteFramingError => true
  | .frameCrcMismatch => true
  | .replySent => true
  | .status _ => true
  | .getStage _ => true
  | .getTime _ => true
  | .setTime _ _ => true
  | .setClockSourceCrystal _ => true
  | .setClockSourceRc _ => true
  | .getSetting _ _ => true
  | .storeSettings _ => true
  | .clearRatingStaging _ => true
  | .commitRating _ => true
  | .setCaptureArm _ _ _ => true
  | .setCaptureDisarm _ _ => true
  | .setCaptureSelect _ _ _ => true
  | .readLines _ => true
  | .jogTravelHome _ => true
  | .jogReelTop _ => true
  | .stop _ => true
  | .validatePlan _ => true
  | .startRun _ => true
  | .holdRun _ => true
  | .resumeRun _ => true
  | .abortRun _ => true
  | .archiveSeekOldest _ => true
  | .archiveSeekNewest _ => true
  | .archiveSeekSeq _ _ => true
  | .archiveSeekTime _ _ => true
  | .takeNotice _ => true
  | .setIdentity _ _ _ => true
  | .restart _ => true
  | .frameByteReceived _ _ => true

end Sys2Proof
end

