-- ==== Sys2Proof/Certificates/Slice0/Obligations.lean ====
section
/-! DEFINITION. The statements for the provers. Where a command leaves all but a few parts of the
state as they are, the statement gives the whole next state. -/

open Sys2Proof Sys2Proof.Machine

/-! The step. -/

/-- The block's step: a command at the front of the queue is carried out on the state with the rest
of the queue. -/
def Obligations.StepRunsFrontCommand : Prop :=
  ∀ (c : Instr) (rest : List Instr) (s : State), s.pending = c :: rest →
    step s = exec c { s with pending := rest }

/-- The model's choice (notes/assumptions/2.md): on an empty queue a step is one tick of the active
source (R4), with the second event of a wrap (R13). -/
def Obligations.EmptyQueueCountsOneTick : Prop :=
  ∀ s : State, s.pending = [] →
    ∃ t, step s = .next t ∧ t.pending = [] ∧ t.ticks = s.ticks + 1 ∧
      (s.time.subSecond + 1 < 32768 →
        t.time = { s.time with subSecond := s.time.subSecond + 1 }) ∧
      (s.time.subSecond = 32767 →
        t.time =
          { s.time with
            subSecond := 0
            mono := min (s.time.mono + 1) 4294967295
            calendar := s.time.calendar.map fun c => if c = 4294967295 then 0 else c + 1 })

/-- Every command answers a next state, and no command changes the queue of the others. -/
def Obligations.EveryCommandAnswersAndKeepsQueue : Prop :=
  ∀ (c : Instr) (s : State), ∃ t, exec c s = .next t ∧ t.pending = s.pending

/-! Resets and the supply (chapters 0 to 2, R149, R190, R192). -/

/-- COLD starts both domains afresh, from any state: the Timebase Unit of R18, the channels of R23
with their pins as they stand, the Stage Unit of R55, the grid of R61, an empty history (R66), no
latch (R96). Of the non-volatile stores, the identity and the interval records stand, the stored
rating, the stored settings and each plan slot are judged by check value and content (R69, R190,
R122), a result left RUNNING is closed as ABORTED by POWER without end time, every other result
stands, and the run number is the highest held (R149). -/
def Obligations.ColdResetStartsAfresh : Prop :=
  ∀ s : State, ∃ t, exec .coldReset s = .next t ∧ s.startedAs t .cold ∧
    t.time =
      { source := .rc, pending := some { good := 0, closed := 0 }, bad := 0, recent := [],
        clockFail := false, subSecond := 0, mono := 0, calendar := none } ∧
    (∀ ch, t.quad ch =
      { a := (s.quad ch).a, b := (s.quad ch).b, count := 0, tally := 0, saturated := false
        dir := none, mult := t.nat (multSetting ch)
        reversed := decide (t.nat (dirSetting ch) = 1) }) ∧
    t.index = { phase := none, slip := false } ∧
    t.stage =
      { shaftOffset := 0, pressOffset := t.settings.num .pressureOffset, shaft := .unreferenced
        press := .healthy, pressCount := 0, disagree := false, disagreeCount := 0
        linesCopy := t.num .floatLines, circCopy := t.num .floatCircumference
        reported := { value := none, quality := .missing, mono := none }, lastValue := none
        meas := none } ∧
    t.history = [] ∧
    (∀ c ∈ [t.warn.watch, t.warn.warning, t.warn.severe],
      c = { latched := false, entry := 0, exit := 0 }) ∧ t.warn.ack = .normal ∧
    t.samp.period = t.nat .baseInterval ∧ t.samp.next = t.time.nextInstant t.samp.period ∧
    (∀ n, n ≤ 8 → t.recmem.slot n =
      (s.recmem.slot n).map fun r =>
        if r.header.status = .running then r.poweredOff none else r) ∧
    (∀ n r, s.recmem.slot n = some r → r.header.runNumber ≤ t.marker.runNumber) ∧
    (t.marker.runNumber = 0 ∨
      ∃ n r, s.recmem.slot n = some r ∧ r.header.runNumber = t.marker.runNumber)

/-- WARM keeps the retention domain and starts the main domain afresh, at the return of the supply,
at a pulse of the RESET input while powered, and at a RESTART when its reply has been sent (R1,
R192). Kept are the timebase (R19), the channels with the reloaded multiplier and direction, a
change of which empties the remembered direction (R23), the index phase unless its meaning has
changed (R24), the Stage Unit, whose shaft a change of float meaning leaves UNREFERENCED (R36, R55),
the history (R66), the run number (R149) and the warning latches and acknowledged level, reconciled
with the reloaded settings (R89, R97). The settings are those of the stored copy where it is judged
VALID, the defaults otherwise (R190). The result in progress and every result left RUNNING are
closed as ABORTED by POWER with the time of the WARM as end time, every other result stands (R149).
A WARM_SUPPLY_RETURN while powered, and no effect of a RESET pulse while unpowered, are the model's
reading (notes/assumptions/11.md). -/
def Obligations.WarmResetKeepsRetention : Prop :=
  ∀ s : State,
    let kept (t : State) : Prop :=
      let floatChanged : Bool :=
        t.float.mult != s.float.mult || t.float.reversed != s.float.reversed ||
          t.num .floatLines != s.stage.linesCopy
      let on (c : LevelCell) (l : LevelSettings) : Bool := c.latched && l.enabled
      let top : Nat :=
        if on s.warn.severe t.settings.severe then 3
        else if on s.warn.warning t.settings.warning then 2
        else if on s.warn.watch t.settings.watch then 1
        else 0
      t.time = s.time ∧ t.ticks = s.ticks ∧
      (∀ ch,
        let m := t.nat (multSetting ch)
        let r := decide (t.nat (dirSetting ch) = 1)
        t.quad ch =
          { s.quad ch with
            mult := m, reversed := r
            dir :=
              if m = (s.quad ch).mult ∧ r = (s.quad ch).reversed then (s.quad ch).dir
              else none }) ∧
      t.index =
        { s.index with
          phase :=
            if floatChanged = true ∨ t.nat .floatIndexMode = 0 then none else s.index.phase } ∧
      t.stage =
        { s.stage with
          meas := none, linesCopy := t.num .floatLines, circCopy := t.num .floatCircumference
          shaft :=
            if floatChanged = true ∨ t.num .floatCircumference ≠ s.stage.circCopy then
              .unreferenced
            else s.stage.shaft } ∧
      t.history = s.history ∧ t.marker.runNumber = s.marker.runNumber ∧
      (∀ n, n ≤ 8 → t.recmem.slot n =
        (s.recmem.slot n).map fun r =>
          if (s.marker.active = true ∧ s.marker.slot = n) ∨ r.header.status = .running then
            r.poweredOff (some s.time.runTime)
          else r) ∧
      t.warn.severe =
        { latched := on s.warn.severe t.settings.severe, entry := 0, exit := 0 } ∧
      t.warn.warning =
        { latched := t.settings.warning.enabled && (s.warn.warning.latched || decide (2 < top))
          entry := 0, exit := 0 } ∧
      t.warn.watch =
        { latched := t.settings.watch.enabled && (s.warn.watch.latched || decide (1 < top))
          entry := 0, exit := 0 } ∧
      t.warn.current.code = top ∧
      t.warn.ack =
        (if t.warn.current ≠ s.warn.current ∧ t.warn.current.code < s.warn.ack.code then
          t.warn.current
        else s.warn.ack) ∧
      (t.warn.current ≠ s.warn.current →
        ∃ n, Notice.level n ∈ t.link.queue ∧ n.from_ = s.warn.current ∧
          n.to_ = t.warn.current ∧ n.cause = .setting) ∧
      t.samp.period =
        (if t.storm then t.nat .baseInterval / t.nat .stormDivisor else t.nat .baseInterval) ∧
      t.samp.next = t.time.nextInstant t.samp.period
    (∃ t, exec .warmSupplyReturn s = .next t ∧ s.startedAs t .warmSupply ∧ kept t) ∧
    (s.powered = true →
      ∃ t, exec .resetInputPulse s = .next t ∧ s.startedAs t .warmResetInput ∧ kept t) ∧
    (∀ r, s.powered = true → s.link.reply = some r → s.link.restart = true →
      ∃ t, exec .replySent s = .next t ∧ s.startedAs t .warmRestart ∧ kept t)

/-- At the loss of POWER_GOOD the main domain is unpowered and no output is driven (R34). While it
is unpowered no command but COLD and the return of the supply reaches it: the tick clock, the
Timebase Unit, the three quadrature channels, the FLOAT index and the raw contact levels alone
change, and the outputs at the loss itself (chapter 1, R23, R34, R98). That a RESET pulse finds
nothing to reset there is the model's reading (notes/assumptions/11.md). -/
def Obligations.UnpoweredMainDomainStands : Prop :=
  (∀ s : State, exec .powerGoodLoss s = .next { s with powered := false, outs := .none }) ∧
  ∀ (c : Instr) (s t : State), s.powered = false → c ≠ .coldReset → c ≠ .warmSupplyReturn →
    exec c s = .next t →
    t = { s with
          ticks := t.ticks, time := t.time, float := t.float, travel := t.travel, reel := t.reel,
          index := t.index, contacts := t.contacts, outs := t.outs } ∧
    (t.outs = s.outs ∨ c = .powerGoodLoss) ∧
    (∀ i, t.contacts.get i = { s.contacts.get i with raw := (t.contacts.get i).raw }) ∧
    (∀ i, t.level i = s.level i)

/-! Timebase (chapter 1). -/

/-- The second event, SET_TIME and SET_CLOCK_SOURCE. At a second event monotonic seconds advance and
hold at their limit, a SET calendar advances and wraps, and the event is handed to the Sampling
Unit: where the grid time has reached the next instant, what follows is what GRID_INSTANT does (R13,
R59; the tick clock of the model passes to the wrap, notes/assumptions/3.md, and GRID_INSTANT as a
command makes the same check, notes/assumptions/4.md). SET_TIME is taken in any state of the
Timebase Unit: the calendar is SET to the value, nothing else of the timebase changes, the grid is
put on the new time, and the reply carries the calendar before (R14, R60). SET_CLOCK_SOURCE is
answered by the state of the Timebase Unit (R8, R9); where the source changes, no measurement and no
exposure is in flight here. -/
def Obligations.ClockAdvancedAndSet : Prop :=
  (∀ s : State,
    let counted : State :=
      { s with
        ticks := s.ticks + (32768 - s.time.subSecond)
        time :=
          { s.time with
            subSecond := 0
            mono := min (s.time.mono + 1) 4294967295
            calendar := s.time.calendar.map fun c => if c = 4294967295 then 0 else c + 1 } }
    let reached : Prop :=
      s.samp.next = some (counted.time.calendar.getD counted.time.mono)
    (s.powered = false ∨ ¬ reached → exec .secondEvent s = .next counted) ∧
    (s.powered = true → reached → exec .secondEvent s = exec .gridInstant counted)) ∧
  (∀ (tag : Byte) (v : BitVec 32) (s : State), s.ready →
    let time := { s.time with calendar := some v.toNat }
    exec (.setTime tag v) s = .next
      (({ s with time := time, samp := { s.samp with next := time.nextInstant s.samp.period } }).replied
        0x11 tag .ok (.setTime s.time.calendar))) ∧
  ∀ (tag : Byte) (s : State), s.ready →
    (s.time.pending.isSome →
      exec (.setClockSourceCrystal tag) s = .next (s.replied 0x12 tag .busy .nothing) ∧
      exec (.setClockSourceRc tag) s = .next (s.replied 0x12 tag .busy .nothing)) ∧
    (s.time.pending = none → s.time.source = .crystal →
      exec (.setClockSourceCrystal tag) s = .next (s.replied 0x12 tag .ok .nothing)) ∧
    (s.time.pending = none → s.time.source = .rc →
      exec (.setClockSourceRc tag) s = .next (s.replied 0x12 tag .ok .nothing)) ∧
    (s.time.pending = none → s.time.source = .rc →
      exec (.setClockSourceCrystal tag) s = .next
        (({ s with
            time :=
              { s.time with
                pending := some { good := 0, closed := 0 }, bad := 0, recent := [] } }).replied
          0x12 tag .accepted .nothing)) ∧
    (s.time.pending = none → s.time.source = .crystal → s.press = .idle →
      s.run.exposure = .none →
      exec (.setClockSourceRc tag) s = .next
        (({ s with
            time := { s.time with source := .rc, pending := none, bad := 0, recent := [] }
            lock := .unlocked s.ticks }).replied 0x12 tag .ok .nothing))

/-- The second bad window in a row on CRYSTAL: the shortfall of the two windows is added, with the
second event of a wrap, RC becomes the active source, clock-fail is set, the multiplier goes
UNLOCKED and a CLOCK notice FAIL is raised (R5, R6, R7, R13, R17). Where that second event is a grid
instant, its sample is started before the source changes and formed without its pressure at once
(R28, R59, R62); where it is none, nothing else changes. No measurement and no exposure is in flight
before. That GRID_INSTANT is no further event is notes/assumptions/4.md. The windows before it: a
good window on CRYSTAL clears the bad-window count, the first bad one makes it 1, and each is kept
as the latest (R6). -/
def Obligations.SecondBadWindowFailsCrystal : Prop :=
  (∀ (s : State) (count : Nat), s.time.source = .crystal →
    let kept (bad : Nat) : State :=
      { s with time := { s.time with bad := bad, recent := count :: s.time.recent.take 1 } }
    (3686 ≤ count → count ≤ 4506 → exec (.windowClose count) s = .next (kept 0)) ∧
    (s.time.bad = 0 → (count < 3686 ∨ 4506 < count) →
      exec (.windowClose count) s = .next (kept 1))) ∧
  ∀ (s : State) (count earlier : Nat), s.powered = true → s.time.source = .crystal →
    s.time.bad = 1 → s.time.recent.head? = some earlier → (count < 3686 ∨ 4506 < count) →
    s.time.subSecond < 32768 → s.press = .idle → s.run.exposure = .none →
    let sum := s.time.subSecond + (8192 - (count + earlier))
    let time : Timebase :=
      { source := .rc, pending := none, bad := 0, recent := [], clockFail := true
        subSecond := sum % 32768
        mono := if sum < 32768 then s.time.mono else min (s.time.mono + 1) 4294967295
        calendar :=
          if sum < 32768 then s.time.calendar
          else s.time.calendar.map fun c => if c = 4294967295 then 0 else c + 1 }
    let notice : Notice :=
      .clock
        { cause := .fail, source := .rc, clockFail := true, mono := time.mono,
          calendar := time.calendar }
    let instant : Prop := s.samp.next = some (time.calendar.getD time.mono)
    (sum < 32768 ∨ ¬ instant →
      exec (.windowClose count) s = .next
        { s with
          time := time, lock := .unlocked s.ticks, outs := { s.outs with attn := true }
          link := { s.link with queue := enqueue notice s.link.queue } }) ∧
    (32768 ≤ sum → instant → s.samp.forming = none → s.recmem.next ≤ 4294967295 →
      ∃ t r, exec (.windowClose count) s = .next t ∧ t.time = time ∧
        t.lock = .unlocked s.ticks ∧ t.press = .idle ∧ t.samp.forming = none ∧
        t.recmem.recs.getLast? = some r ∧ r.seq = s.recmem.next ∧ r.mono = time.mono ∧
        r.calendar = time.calendar ∧ r.press = none ∧ notice ∈ t.link.queue)

/-- A pending switch. Before its 80th window a good window short of the fourth in a row is counted,
and a bad one starts the count anew (R6, R9). How it ends: the fourth good window in a row makes
CRYSTAL active, at the 80th window too; an 80th window that does not complete the switch ends it on
RC with clock-fail set (R6, R9, R10, R17). No measurement and no exposure is in flight at an end
here. -/
def Obligations.PendingSwitchEnds : Prop :=
  (∀ (s : State) (count good closed : Nat), s.time.source = .rc →
    s.time.pending = some { good := good, closed := closed } → closed < 79 →
    let counted (good : Nat) : State :=
      { s with
        time :=
          { s.time with
            pending := some { good := good, closed := closed + 1 }
            recent := count :: s.time.recent.take 1 } }
    (3686 ≤ count → count ≤ 4506 → good < 3 →
      exec (.windowClose count) s = .next (counted (good + 1))) ∧
    (count < 3686 ∨ 4506 < count → exec (.windowClose count) s = .next (counted 0))) ∧
  ∀ (s : State) (count good closed : Nat), s.powered = true → s.time.source = .rc →
    s.time.pending = some { good := good, closed := closed } → s.press = .idle →
    s.run.exposure = .none →
    (good = 3 → 3686 ≤ count → count ≤ 4506 →
      exec (.windowClose count) s = .next
        { s with
          time :=
            { s.time with
              source := .crystal, pending := none, clockFail := false, bad := 0
              recent := count :: s.time.recent.take 1 }
          lock := .unlocked s.ticks
          outs := { s.outs with attn := true }
          link :=
            { s.link with
              queue :=
                enqueue
                  (.clock
                    { cause := .switched, source := .crystal, clockFail := false,
                      mono := s.time.mono, calendar := s.time.calendar }) s.link.queue } }) ∧
    (closed = 79 → (good < 3 ∨ count < 3686 ∨ 4506 < count) → good < 4 →
      exec (.windowClose count) s = .next
        { s with
          time :=
            { s.time with
              source := .rc, pending := none, clockFail := true, bad := 0, recent := [] }
          outs := { s.outs with attn := true }
          link :=
            { s.link with
              queue :=
                enqueue
                  (.clock
                    { cause := .failed, source := .rc, clockFail := true,
                      mono := s.time.mono, calendar := s.time.calendar }) s.link.queue } })

/-- The multiplier at a change of source and at the lock. A change of source ends a measurement in
flight: its sample is formed without its pressure (R11, R28, R64). It interrupts an exposure in
flight: the repeat is dropped and waits for the lock again while the point's retry count is below 2,
and at 2 the point fails CLOCK and the weight is raised in RETRACT with the vertical written; an
exposure that waits is left (R138, R139, R156). The changes are SET_CLOCK_SOURCE RC, the completion
of a switch, and the failure of the crystal with the shortfall of its two bad windows added and the
second event of a wrap (R7 to R9, R13). An exposure is looked at while no measurement is in flight
and that second event is no grid instant; a sample is formed whatever the run does.
MULTIPLIER_LOCK locks the multiplier (R5), and an exposure that waits for the lock starts with the
rotor_spacing of the snapshot (R26, R137): that EXPOSURE_START is the event at which it starts is
the model's reading (notes/assumptions/5.md). -/
def Obligations.SourceChangeEndsMeasurementAndExposure : Prop :=
  (∀ s : State, s.powered = true →
    exec .multiplierLock s = .next { s with lock := .locked } ∧
    ∀ snap, s.run.snap = some snap → s.lock = .locked → s.run.exposure = .waiting →
      exec .exposureStart s = .next
        { s with
          rotor :=
            { counting := true, count := 0, saturated := false, last := none
              spacing := (snap.settings.num .rotorSpacing).toNat }
          run := { s.run with exposure := .running s.ticks } }) ∧
  ∀ (tag : Byte) (s : State),
    let rc : Timebase := { s.time with source := .rc, pending := none, bad := 0, recent := [] }
    let toRc : Prop := s.ready ∧ s.time.pending = none ∧ s.time.source = .crystal
    let switching (count : Nat) : Prop :=
      s.powered = true ∧ s.time.source = .rc ∧ 3686 ≤ count ∧ count ≤ 4506 ∧
        ∃ closed, s.time.pending = some { good := 3, closed := closed }
    let switched (count : Nat) : Timebase :=
      { s.time with
        source := .crystal, pending := none, clockFail := false, bad := 0
        recent := count :: s.time.recent.take 1 }
    let failing (count earlier : Nat) : Prop :=
      s.powered = true ∧ s.time.source = .crystal ∧ s.time.bad = 1 ∧
        s.time.recent.head? = some earlier ∧ (count < 3686 ∨ 4506 < count) ∧
        s.time.subSecond < 32768
    let sum (count earlier : Nat) : Nat := s.time.subSecond + (8192 - (count + earlier))
    let failed (count earlier : Nat) : Timebase :=
      { source := .rc, pending := none, bad := 0, recent := [], clockFail := true
        subSecond := sum count earlier % 32768
        mono :=
          if sum count earlier < 32768 then s.time.mono else min (s.time.mono + 1) 4294967295
        calendar :=
          if sum count earlier < 32768 then s.time.calendar
          else s.time.calendar.map fun c => if c = 4294967295 then 0 else c + 1 }
    let quiet (count earlier : Nat) : Prop :=
      sum count earlier < 32768 ∨
        s.samp.next ≠
          some ((failed count earlier).calendar.getD (failed count earlier).mono)
    let noticed (t : State) (cause : ClockCause) : State :=
      { t with
        outs := { t.outs with attn := true }
        link :=
          { t.link with
            queue :=
              enqueue
                (.clock
                  { cause := cause, source := t.time.source, clockFail := t.time.clockFail,
                    mono := t.time.mono, calendar := t.time.calendar }) t.link.queue } }
    (∀ f, s.press ≠ .idle → s.samp.forming = some f → s.recmem.next ≤ 4294967295 →
      let formed (t : State) : Prop :=
        t.press = .idle ∧ t.samp.forming = none ∧ t.lock = .unlocked s.ticks ∧
        t.stage.meas = s.stage.meas ∧ (∀ k, t.run.exposure ≠ .running k) ∧
        ∃ r, t.recmem.recs.getLast? = some r ∧ r.seq = s.recmem.next ∧ r.mono = f.mono ∧
          r.calendar = f.calendar ∧ r.press = none
      (toRc → ∃ t : State, exec (.setClockSourceRc tag) s =
        .next (t.replied 0x12 tag .ok .nothing) ∧ t.time = rc ∧ formed t) ∧
      (∀ count, switching count →
        ∃ t, exec (.windowClose count) s = .next t ∧ t.time = switched count ∧ formed t) ∧
      (∀ count earlier, failing count earlier →
        ∃ t, exec (.windowClose count) s = .next t ∧ t.time = failed count earlier ∧
          formed t)) ∧
    (s.press = .idle →
      let idle (time : Timebase) : State := { s with time := time, lock := .unlocked s.ticks }
      let again (time : Timebase) : State :=
        { idle time with
          rotor := { s.rotor with counting := false }
          run :=
            { s.run with
              exposure := .waiting
              vertical := { s.run.vertical with retry := s.run.vertical.retry + 1 } } }
      (∀ after : Timebase → State,
        ((∃ start, s.run.exposure = .running start) ∧ s.run.vertical.retry < 2 ∧ after = again) ∨
          (s.run.exposure = .waiting ∧ after = idle) →
        (toRc → exec (.setClockSourceRc tag) s =
          .next ((after rc).replied 0x12 tag .ok .nothing)) ∧
        (∀ count, switching count → exec (.windowClose count) s =
          .next (noticed (after (switched count)) .switched)) ∧
        (∀ count earlier, failing count earlier → quiet count earlier →
          exec (.windowClose count) s =
            .next (noticed (after (failed count earlier)) .fail))) ∧
      (∀ start r snap e, s.run.exposure = .running start → 2 ≤ s.run.vertical.retry →
        s.run.phase = .expose → s.drive.state = .idle → s.level .driveFault = false →
        s.level .reelTop = false → s.run.snap = some snap →
        s.snapEntry s.run.current = some e → s.recmem.slot s.marker.slot = some r →
        s.run.vertical.point < s.run.vertical.points.length →
        let points :=
          s.run.vertical.points.take s.run.vertical.point ++
            ((s.run.vertical.points.drop s.run.vertical.point).take 1).map fun p =>
              { p with failure := some .clock }
        let v :=
          verticalRecord snap.settings s.run.current e
            { s.run.vertical with points := points, pointFailed := true }
        let lost (t : State) : Prop :=
          t.run.phase = .retract ∧ t.run.exposure = .none ∧ t.rotor.counting = false ∧
          t.lock = .unlocked s.ticks ∧
          (∃ rest, (t.recmem.slot s.marker.slot).map (·.verts) = some (r.verts ++ v :: rest) ∧
            (s.run.current + 1 ≠ snap.entries.length → rest = []) ∧
            (∀ last, s.run.current + 1 = snap.entries.length →
              snap.entries[s.run.current]? = some last →
              rest = [edgeRecord snap.entries.length last])) ∧
          v.index = s.run.current ∧ v.pointFailed = true ∧
          v.velocity = none ∧ v.points.length = s.run.vertical.point + 1 ∧
          v.points.getLast?.bind (·.failure) = some .clock ∧
          ∃ m, t.drive.state = .moving m ∧ m.requester = .run ∧ t.outs.reelUp = true
        (toRc → ∃ t : State, exec (.setClockSourceRc tag) s =
          .next (t.replied 0x12 tag .ok .nothing) ∧ t.time = rc ∧ lost t) ∧
        (∀ count, switching count →
          ∃ t, exec (.windowClose count) s = .next t ∧ t.time = switched count ∧ lost t) ∧
        (∀ count earlier, failing count earlier → quiet count earlier →
          ∃ t, exec (.windowClose count) s = .next t ∧ t.time = failed count earlier ∧ lost t)))

/-! Count inputs and field lines (chapter 2). -/

/-- A quadrature channel follows the forward order 00, 10, 11, 01: one step forward or back moves
the count by one where the multiplier counts it and holds it at its limits with the saturated state
set; two steps are a phase error; no move is in flight, the drive being IDLE or FAULTED (R20 to
R22). What a transition held at a limit does to the remembered direction is left open here
(notes/assumptions/13.md). -/
def Obligations.QuadratureFollowsForwardOrder : Prop :=
  ∀ (ch : Chan) (a b : Bool) (s : State), s.drive.state.move? = none →
    let q := s.quad ch
    let moved := (pairPlace a b + 4 - pairPlace q.a q.b) % 4
    let positive := decide (moved = 1) != q.reversed
    let counted := countedBy q.mult (a != q.a) b
    (moved = 0 → exec (.quadratureTransition ch a b) s = .next s) ∧
    (moved = 2 →
      exec (.quadratureTransition ch a b) s =
        .next (s.setQuad ch { q with a := a, b := b, tally := min (q.tally + 1) 65535 })) ∧
    (moved = 1 ∨ moved = 3 → q.mult = 1 ∨ q.mult = 2 ∨ q.mult = 4 →
      (¬ counted →
        exec (.quadratureTransition ch a b) s = .next (s.setQuad ch { q with a := a, b := b })) ∧
      (counted → positive = true → -8388608 ≤ q.count + 1 → q.count < 8388607 →
        exec (.quadratureTransition ch a b) s =
          .next (s.setQuad ch
            { q with a := a, b := b, count := q.count + 1, dir := some true })) ∧
      (counted → positive = false → q.count - 1 ≤ 8388607 → -8388608 < q.count →
        exec (.quadratureTransition ch a b) s =
          .next (s.setQuad ch
            { q with a := a, b := b, count := q.count - 1, dir := some false })) ∧
      (counted → (positive = true ∧ q.count = 8388607 ∨ positive = false ∧ q.count = -8388608) →
        ∃ d, exec (.quadratureTransition ch a b) s =
          .next (s.setQuad ch { q with a := a, b := b, saturated := true, dir := d })))

/-- An index edge: ignored in mode OFF and unless the remembered direction is positive; it
establishes the phase; later it is judged by the deviation from the nearest reference value, the
lower of two equally near ones taken, which CORRECT (mode 2) removes from the count, unless the
reference value lies outside the count range, and CHECK (mode 1) leaves (R24, R25). That an edge in
an outage is judged by the settings as last in use is the model's reading (notes/assumptions/12.md).
-/
def Obligations.FloatIndexJudged : Prop :=
  ∀ s : State,
    let mode := s.nat .floatIndexMode
    let cpr := s.floatCpr
    ((mode = 0 ∨ s.float.dir ≠ some true) → exec .floatIndexEdge s = .next s) ∧
    (mode ≠ 0 → s.float.dir = some true → s.index.phase = none →
      exec .floatIndexEdge s =
        .next { s with
          index := { s.index with phase := some (s.float.count % (cpr : Int)).toNat } }) ∧
    (∀ (r : Nat) (k d : Int), mode ≠ 0 → s.float.dir = some true → s.index.phase = some r →
      s.float.count = r + k * cpr + d → -(cpr : Int) < 2 * d → 2 * d ≤ cpr →
      ((d.natAbs : Int) ≤ s.num .slipTolerance → exec .floatIndexEdge s = .next s) ∧
      (s.num .slipTolerance < d.natAbs → mode = 1 →
        exec .floatIndexEdge s = .next { s with index := { s.index with slip := true } }) ∧
      (s.num .slipTolerance < d.natAbs → mode = 2 → -8388608 ≤ s.float.count - d →
        s.float.count - d ≤ 8388607 →
        exec .floatIndexEdge s =
          .next { s with
            float := { s.float with count := s.float.count - d, saturated := false }
            index := { s.index with slip := true } }) ∧
      (s.num .slipTolerance < d.natAbs → mode = 2 →
        (s.float.count - d < -8388608 ∨ 8388607 < s.float.count - d) →
        exec .floatIndexEdge s = .next { s with index := { s.index with slip := true } }))

/-- A rising edge of ROTOR: ignored in IDLE, rejected sooner than the spacing after the last counted
pulse, counted otherwise, and held at 65 535 with the saturated flag (R26). The ticks that pass
before the edge run first (the model's form of the event, notes/assumptions/3.md). -/
def Obligations.RotorEdgeKeepsSpacing : Prop :=
  (∀ (n : Nat) (s : State), exec (.rotorEdge n) s = exec (.rotorEdge 0) (s.tickBy n)) ∧
  ∀ s : State, s.powered = true →
    (s.rotor.counting = false → exec (.rotorEdge 0) s = .next s) ∧
    (∀ l, s.rotor.counting = true → s.rotor.last = some l →
      s.ticks < l + msTicks s.rotor.spacing → exec (.rotorEdge 0) s = .next s) ∧
    (s.rotor.counting = true →
      (s.rotor.last = none ∨ ∃ l, s.rotor.last = some l ∧ l + msTicks s.rotor.spacing ≤ s.ticks) →
      (s.rotor.count < 65535 →
        exec (.rotorEdge 0) s = .next
          { s with rotor := { s.rotor with count := s.rotor.count + 1, last := some s.ticks } }) ∧
      (s.rotor.count = 65535 →
        exec (.rotorEdge 0) s = .next
          { s with rotor := { s.rotor with saturated := true, last := some s.ticks } }))

/-- A pressure measurement: the first edge starts the counters, each later one counts A down, the
last hands the pair to the sample in formation, and the timeout hands it a failure (R27, R28, R37,
R62). The sample is formed at once: its record takes the next sequence number and the times of the
instant, and carries the reported stage it made (R64, R65, R169). That an edge brings the count of B
with it, and that PRESSURE_COMPLETE passes over the edges that remain, is the model's form of the
two events (notes/assumptions/6.md). -/
def Obligations.PressureMeasurementFormsSample : Prop :=
  ∀ (s : State) (b : Nat), s.powered = true →
    (∀ n start, s.press = .waiting n start →
      exec (.pressureEdge b) s = .next { s with press := .measuring n n 0 start }) ∧
    (∀ n a b₀ start, s.press = .measuring n (a + 2) b₀ start →
      exec (.pressureEdge b) s = .next { s with press := .measuring n (a + 1) b start }) ∧
    (∀ f, s.samp.forming = some f → s.recmem.next ≤ 4294967295 →
      let formed (t : State) (pressAbsent : Bool) : Prop :=
        t.press = .idle ∧ t.samp.forming = none ∧ t.recmem.next = s.recmem.next + 1 ∧
        t.stage.reported.mono = some f.mono ∧
        ∃ r, t.recmem.recs.getLast? = some r ∧ r.seq = s.recmem.next ∧ r.mono = f.mono ∧
          r.calendar = f.calendar ∧ r.period = f.period ∧ r.slip = f.capture.slip ∧
          r.stage = t.stage.reported.value ∧ r.quality = t.stage.reported.quality ∧
          r.rate = t.samp.rate ∧ r.level = t.warn.current ∧ r.storm = t.storm ∧
          r.differs = t.stage.disagree ∧ (pressAbsent = true → r.press = none)
      (∀ n a b₀ start, s.press = .measuring n a b₀ start → 0 < b →
        ∃ t, exec (.pressureComplete b) s = .next t ∧ formed t false ∧
          (a ≤ 1 → exec (.pressureEdge b) s = .next t) ∧
          t.stage.meas =
            some { freq := roundDiv ((n : Int) * 100 * 4194304) b, n := n, mono := s.time.mono }) ∧
      (s.press ≠ .idle →
        ∃ t, exec .pressureTimeout s = .next t ∧ formed t true ∧
          t.stage.meas = s.stage.meas))

/-- What the Stage Unit and the Sampling Unit make of a sample. The shaft and the pressure value are
computed and clamped; the shaft is judged by the tally and saturation of its capture, the pressure by
the presence of its value; the disagreement is evaluated where both channels are then HEALTHY with
values, and the reported stage is selected; each change of a state raises a SENSOR notice, in this
order, and nothing else of the state changes (R38, R39, R44, R47, R48, R50, R52 to R54). A GOOD,
DIFFERS or SUBSTITUTED stage is appended to the history, which keeps its 64 newest entries, and the
rate of rise is that since the oldest entry within rise_window, absent where there is none but the
newest or it lies less than half a window back (R66, R67). PRESSURE_COMPLETE and PRESSURE_TIMEOUT
form the sample so (R27, R28, R62). -/
def Obligations.SampleFormsStageAndRate : Prop :=
  ∀ (s : State) (f : Forming) (o : Measurement), s.powered = true →
    let was := s.stage
    let inRange (x : Int) : Int := max (-2000) (min 32000 x)
    let raw : Int :=
      was.shaftOffset +
        roundDiv (f.capture.count * s.num .floatCircumference)
          (s.num .floatLines * s.float.mult * 1000)
    let shaft : Option Int := if was.shaft = .unreferenced then none else some (inRange raw)
    let freq (n b : Nat) : Int := roundDiv ((n : Int) * 100 * 4194304) b
    let accepted (n b : Nat) : Prop :=
      s.num .pressureFMin ≤ freq n b ∧ freq n b ≤ s.num .pressureFMax
    let rise (n b : Nat) : Int :=
      roundDiv
        (s.num .pressureGaugeFactor *
          (s.num .pressureF0 * s.num .pressureF0 - freq n b * freq n b)) 10000000000
    let press : Option Int :=
      match o with
      | .pair n b => if accepted n b then some (inRange (was.pressOffset + rise n b)) else none
      | .failed _ => none
    let absent : Option PressCause :=
      match o with
      | .pair n b => if accepted n b then none else some .range
      | .failed c => some c
    let t := (s.formStage f o).1
    let now := t.stage
    let items := (s.formStage f o).2
    let count := was.pressCount + 1
    let turns := was.disagreeCount + 1
    let sensor (shaftState : ShaftState) (pressState : PressState) (disagree : Bool)
        (changed : SensorItems) : Notice :=
      .sensor
        { changed := changed, shaft := shaftState, press := pressState, disagree := disagree
          shaftValue := shaft, pressValue := press, mono := s.time.mono }
    let raised : List Notice :=
      (if now.shaft = was.shaft then []
        else
          [sensor now.shaft was.press was.disagree
            { shaft := true, press := false, disagree := false }]) ++
      (if now.press = was.press then []
        else
          [sensor now.shaft now.press was.disagree
            { shaft := false, press := true, disagree := false }]) ++
      (if now.disagree = was.disagree then []
        else
          [sensor now.shaft now.press now.disagree
            { shaft := false, press := false, disagree := true }])
    (t =
      { s with
        stage :=
          { was with
            meas :=
              match o with
              | .pair n b => some { freq := freq n b, n := n, mono := s.time.mono }
              | .failed _ => was.meas
            shaft := now.shaft, press := now.press, pressCount := now.pressCount
            disagree := now.disagree, disagreeCount := now.disagreeCount
            reported := now.reported, lastValue := now.lastValue }
        link := { s.link with queue := raised.foldl (fun q n => enqueue n q) s.link.queue }
        outs := { s.outs with attn := s.outs.attn || !raised.isEmpty } }) ∧
    (now.shaft =
      if was.shaft = .healthy ∧ f.capture.setAside = false ∧
          (3 ≤ f.capture.tally ∨ f.capture.saturated = true) then
        .faulted (decide (3 ≤ f.capture.tally)) f.capture.saturated
      else was.shaft) ∧
    (∀ c, was.press = .healthy → absent = some c →
      (count < 3 → now.press = .healthy ∧ now.pressCount = count) ∧
      (3 ≤ count → now.press = .faulted c ∧ now.pressCount = 0)) ∧
    (was.press = .healthy → press.isSome → now.press = .healthy ∧ now.pressCount = 0) ∧
    (∀ c, was.press = .faulted c → press.isSome →
      (count < 3 → now.press = .faulted c ∧ now.pressCount = count) ∧
      (3 ≤ count → now.press = .healthy ∧ now.pressCount = 0)) ∧
    (∀ c, was.press = .faulted c → press = none →
      now.press = .faulted c ∧ now.pressCount = 0) ∧
    (let a : Option Int := if now.shaft = .healthy then shaft else none
     let b : Option Int := if now.press = .healthy then press else none
     (a = none ∨ b = none →
       now.disagree = was.disagree ∧ now.disagreeCount = was.disagreeCount) ∧
     (∀ x y, a = some x → b = some y →
       let disagrees : Bool := decide (s.num .disagreeTolerance < ((x - y).natAbs : Int))
       (disagrees = was.disagree → now.disagree = was.disagree ∧ now.disagreeCount = 0) ∧
       (disagrees ≠ was.disagree →
         (turns < 3 → now.disagree = was.disagree ∧ now.disagreeCount = turns) ∧
         (3 ≤ turns → now.disagree = disagrees ∧ now.disagreeCount = 0))) ∧
     (let primary := if s.nat .stagePrimary = 0 then a else b
      let check := if s.nat .stagePrimary = 0 then b else a
      let reports (v : Option Int) (q : StageQuality) : Prop :=
        now.reported = { value := v, quality := q, mono := some f.mono } ∧
          now.lastValue = if v.isSome then v else was.lastValue
      (∀ v, primary = some v → reports (some v) (if now.disagree then .differs else .good)) ∧
      (∀ v, primary = none → check = some v → reports (some v) .substituted) ∧
      (∀ v, primary = none → check = none → was.lastValue = some v → reports (some v) .held) ∧
      (primary = none → check = none → was.lastValue = none → reports none .missing))) ∧
    items =
      { value := now.reported.value, quality := now.reported.quality, shaft := shaft
        press := press, pressAbsent := absent, shaftState := now.shaft, pressState := now.press
        slip := f.capture.slip, differs := now.disagree
        range :=
          decide (shaft ≠ none ∧ inRange raw ≠ raw) ||
            (match o with
              | .pair n b =>
                decide (accepted n b →
                  inRange (was.pressOffset + rise n b) ≠ was.pressOffset + rise n b)
              | .failed c => decide (c = .range)) } ∧
    (s.samp.forming = some f →
      let u := s.formSample o
      let window := s.num .riseWindow
      u.stage = now ∧ u.settings = s.settings ∧ u.samp.forming = none ∧
      (now.reported.quality = .held ∨ now.reported.quality = .missing →
        u.history = s.history ∧ u.samp.rate = none) ∧
      (∀ v, now.reported.quality ≠ .held → now.reported.value = some v →
        let h := u.history
        (∃ dropped, dropped ++ h = s.history ++ [(f.mono, v)] ∧
          h.length = min 64 (s.history.length + 1)) ∧
        ((∀ e ∈ s.history, e.1 < f.mono) →
          ∀ (k : Nat) (e : Nat × Int), h[k]? = some e → (f.mono : Int) - window ≤ e.1 →
            (∀ j q, j < k → h[j]? = some q → (q.1 : Int) < (f.mono : Int) - window) →
            let span : Int := (f.mono : Int) - e.1
            u.samp.rate =
              if k + 1 = h.length ∨ 2 * span < window then none
              else
                some (max (-99999) (min 99999 (roundDiv ((v - e.2) * 3600) span)))))) ∧
    (∀ n a b start, s.press = .measuring n a b start →
      ∀ c, 0 < c → o = .pair n c → s.samp.forming = some f →
        exec (.pressureComplete c) s = .next ({ s with press := .idle }.formSample o)) ∧
    (s.press ≠ .idle → o = .failed .timeout →
      exec .pressureTimeout s = .next ({ s with press := .idle }.formSample o))

/-- A contact input. A raw change to the debounced level ends the interval in progress, one to the
other level begins an interval, or with debounce 0 makes its edge at once, and one while the part is
unpowered changes the raw level alone. The expiry of the interval makes the edge: the debounced
level, the end of the interval, and, where the input is armed for that edge, the capture with its
LINE notice; the drive and the run have nothing to do with the edge here (R29, R31). That the ticks
before a raw change run first (notes/assumptions/3.md), and that a raw change to the raw level there
is, and an expiry with no interval in progress, leave the state as it is (notes/assumptions/1.md),
is the model's form of the two events. -/
def Obligations.ContactDebounced : Prop :=
  (∀ (n : Nat) (i : Contact) (raw : Bool) (s : State),
    exec (.contactRawChange i raw n) s = exec (.contactRawChange i raw 0) (s.tickBy n)) ∧
  ∀ (s : State) (i : Contact),
    let l := s.contacts.get i
    let edged (level : Bool) : ContactLine :=
      { l with
        raw := level, level := level, since := none
        captured := l.captured || (l.armed && (level != l.falling)) }
    let noticed (level : Bool) : Bool := l.armed && (level != l.falling) && l.notice
    let after (level : Bool) : State :=
      let t := { s with contacts := s.contacts.set i (edged level) }
      if noticed level then
        { t with
          outs := { s.outs with attn := true }
          link :=
            { s.link with
              queue :=
                enqueue
                  (.line (.build fun j => (t.contacts.get j).captured && (t.contacts.get j).notice))
                  s.link.queue } }
      else t
    let quiet (level : Bool) : Prop :=
      s.drive.state = .idle ∧ s.run.phase = .idle ∧ (i = .driveFault → level = false)
    (∀ raw, raw = l.raw → exec (.contactRawChange i raw 0) s = .next s) ∧
    (∀ raw, raw ≠ l.raw → s.powered = false →
      exec (.contactRawChange i raw 0) s =
        .next { s with contacts := s.contacts.set i { l with raw := raw } }) ∧
    (∀ raw, raw ≠ l.raw → s.powered = true → raw = l.level →
      exec (.contactRawChange i raw 0) s =
        .next { s with contacts := s.contacts.set i { l with raw := raw, since := none } }) ∧
    (∀ raw, raw ≠ l.raw → s.powered = true → raw ≠ l.level → s.num (debounceSetting i) ≠ 0 →
      exec (.contactRawChange i raw 0) s =
        .next { s with contacts := s.contacts.set i { l with raw := raw, since := some s.ticks } }) ∧
    (∀ raw, raw ≠ l.raw → s.powered = true → raw ≠ l.level → s.num (debounceSetting i) = 0 →
      quiet raw → exec (.contactRawChange i raw 0) s = .next (after raw)) ∧
    (s.powered = true → l.since.isSome → quiet l.raw →
      exec (.debounceExpiry i) s = .next (after l.raw)) ∧
    (s.powered = true → l.since = none → exec (.debounceExpiry i) s = .next s)

/-- SET_CAPTURE acts on the inputs of its set and on no other, with the outcome OK; an empty set, or
a polarity set that is no subset, is refused INVALID; DISARM also takes the inputs out of a queued
LINE entry, which keeps its place and its other inputs and goes with its last one, and ATTN follows
the queue (R32, R194, R195). -/
def Obligations.CapturesSetByLine : Prop :=
  ∀ (tag lines polarity : Byte) (notice : Bool) (s : State), s.ready →
    let named (i : Contact) : Bool := (LineSet.ofByte lines).has i
    let items (c : Contacts) : ReplyBody := .captures (allContacts.map fun i => (c.get i).items)
    (lines = 0 →
      exec (.setCaptureArm tag lines notice) s = .next (s.replied 0x40 tag .invalid .nothing) ∧
      exec (.setCaptureDisarm tag lines) s = .next (s.replied 0x40 tag .invalid .nothing) ∧
      exec (.setCaptureSelect tag lines polarity) s =
        .next (s.replied 0x40 tag .invalid .nothing)) ∧
    (polarity &&& ~~~lines ≠ 0 →
      exec (.setCaptureSelect tag lines polarity) s =
        .next (s.replied 0x40 tag .invalid .nothing)) ∧
    (lines ≠ 0 →
      (∃ c, exec (.setCaptureArm tag lines notice) s =
          .next (({ s with contacts := c }).replied 0x40 tag .ok (items c)) ∧
        ∀ i, c.get i =
          if named i then { s.contacts.get i with armed := true, notice := notice }
          else s.contacts.get i) ∧
      (∃ (c : Contacts) (q : List Notice), exec (.setCaptureDisarm tag lines) s =
          .next (({ s with
              contacts := c
              outs := { s.outs with attn := !q.isEmpty }
              link := { s.link with queue := q } }).replied 0x40 tag .ok (items c)) ∧
        (∀ i, c.get i =
          if named i then
            { s.contacts.get i with armed := false, captured := false, notice := false }
          else s.contacts.get i) ∧
        (∀ n ∈ q, ∀ m, n = Notice.line m → ∀ i, named i = true → m.has i = false) ∧
        q.filter (fun n => decide (n.kind ≠ .line)) =
          s.link.queue.filter (fun n => decide (n.kind ≠ .line)) ∧
        ∀ (a b : List Notice) (m : LineSet), s.link.queue = a ++ .line m :: b →
          (∀ n ∈ a ++ b, n.kind ≠ .line) →
          ((∃ i, m.has i = true ∧ named i = false) →
            ∃ left : LineSet, q = a ++ .line left :: b ∧
              ∀ i, left.has i = (m.has i && !named i)) ∧
          ((∀ i, m.has i = true → named i = true) → q = a ++ b)) ∧
      (polarity &&& ~~~lines = 0 →
        ∃ c, exec (.setCaptureSelect tag lines polarity) s =
            .next (({ s with contacts := c }).replied 0x40 tag .ok (items c)) ∧
          ∀ i, c.get i =
            if named i then
              { s.contacts.get i with falling := !(LineSet.ofByte polarity).has i }
            else s.contacts.get i))

/-! The cableway drive (chapter 7). -/

/-- JOG. In a phase of the run other than IDLE and HOLD it is refused RUN_ACTIVE, with a move in
flight BUSY, with the drive FAULTED or DRIVE_FAULT asserted FAULTED, the latter with a fault record,
and STATE where its axis has no true position, after an axis check that unreferenced it too, or a
limit stands toward its target. A JOG that is complete at its start is answered OK, or CLAMPED, with
the completion, and starts nothing; REEL_TOP and LIMIT_NEAR reference their axis there (R100), and
the completion then carries no cause of the axis check (the model's choice,
notes/assumptions/38.md) and the computed position of the preset count as its positions (the model's
choice, notes/assumptions/42.md); a home position outside the count range leaves TRAVEL UNREFERENCED, one
that was REFERENCED too (notes/assumptions/14.md). A JOG accepted by an IDLE drive otherwise starts
its move, with a target clamped into range: the outputs are those of its direction and speed phase,
the channel of its axis is cleared by the axis check (R101, R102, R103, R105, R106, R112). The move
of JOG REEL TOP carries the payout limit 0 (notes/assumptions/39.md). INTERLOCK has its own
statement. The settings are sound, as every step keeps them. -/
def Obligations.JogStartsMove : Prop :=
  (∀ (tag : Byte) (x : Int) (s : State), s.ready →
    let refused (t : State) (code : ReplyCode) : Prop :=
      exec (.jogTravelPosition tag x) s = .next (t.replied 0x48 tag code .nothing) ∧
      exec (.jogTravelHome tag) s = .next (t.replied 0x48 tag code .nothing) ∧
      exec (.jogReelPayout tag x) s = .next (t.replied 0x48 tag code .nothing) ∧
      exec (.jogReelTop tag) s = .next (t.replied 0x48 tag code .nothing)
    (s.run.phase ≠ .idle → s.run.phase ≠ .hold → refused s .runActive) ∧
    (s.run.phase = .idle ∨ s.run.phase = .hold →
      (∀ m, s.drive.state.move? = some m → refused s .busy) ∧
      (s.drive.state = .faulted → refused s .faulted) ∧
      (s.drive.state = .idle → s.level .driveFault = true →
        refused
          { s with
            drive :=
              { s.drive with
                state := .faulted
                fault :=
                  some
                    { cause := .drive, axis := none, kind := none, position := none,
                      mono := s.time.mono } }
            outs := DriveState.faulted.outputs s.outs } .faulted))) ∧
  ∀ (tag : Byte) (x : Int) (s : State), s.ready → s.settingsSound →
    (s.run.phase = .idle ∨ s.run.phase = .hold) → s.drive.state = .idle →
    s.level .driveFault = false →
    let goal := max (-1000000) (min 1000000 x)
    let move (ax : Axis) (k : MoveKind) (forward slow : Bool) : Move :=
      { requester := .host, axis := ax, kind := k, speed := .auto, forward := forward,
        slowPhase := slow, peak := s.position ax, countAt := s.ticks, phaseAt := s.ticks,
        contact := none, stopPos := none, outcome := none }
    let started (m : Move) : State :=
      { s.setQuad m.axis.chan { s.quad m.axis.chan with tally := 0, saturated := false } with
        drive := { s.drive with state := .moving m }
        outs := (DriveState.moving m).outputs s.outs }
    let clean (ax : Axis) : Prop :=
      (s.quad ax.chan).saturated = false ∧ (s.quad ax.chan).tally < 3
    let checked (ax : Axis) (t : State) : State :=
      t.setQuad ax.chan { t.quad ax.chan with tally := 0, saturated := false }
    let complete (ax : Axis) (k : MoveKind) (o : MoveOutcome) (c : Option Contact) (p : Int) :
        Completion :=
      { axis := ax, kind := k, outcome := o, contact := c, stopPos := some p, finalPos := some p
        referenced := true, check := none }
    (s.level .reelTop = true →
      (clean .travel → s.drive.travelRef = false ∨
          (s.position .travel < goal ∧ s.level .limitFar = true) ∨
          (goal < s.position .travel ∧ s.level .limitNear = true) →
        exec (.jogTravelPosition tag x) s =
          .next ((checked .travel s).replied 0x48 tag .state .nothing)) ∧
      (¬ clean .travel →
        exec (.jogTravelPosition tag x) s = .next
          ((checked .travel { s with drive := { s.drive with travelRef := false } }).replied
            0x48 tag .state .nothing))) ∧
    (clean .reel → s.drive.reelRef = false →
      exec (.jogReelPayout tag x) s =
        .next ((checked .reel s).replied 0x48 tag .state .nothing)) ∧
    (¬ clean .reel →
      exec (.jogReelPayout tag x) s = .next
        ((checked .reel { s with drive := { s.drive with reelRef := false } }).replied
          0x48 tag .state .nothing)) ∧
    (s.level .reelTop = true → clean .travel → s.drive.travelRef = true →
      goal ≠ s.position .travel → (s.position .travel < goal → s.level .limitFar = false) →
      (goal < s.position .travel → s.level .limitNear = false) →
      exec (.jogTravelPosition tag x) s = .next
        ((started (move .travel (.toPosition goal) (decide (s.position .travel < goal))
          (decide (((goal - s.position .travel).natAbs : Int) ≤ s.num .travelSlowZone)))).replied
            0x48 tag .accepted .nothing)) ∧
    (s.level .reelTop = true → clean .travel → s.level .limitNear = false →
      exec (.jogTravelHome tag) s = .next
        ((started (move .travel .home false
          (!s.drive.travelRef ||
            decide (s.position .travel - s.num .homeX ≤ s.num .travelSlowZone)))).replied
            0x48 tag .accepted .nothing)) ∧
    (clean .reel → s.drive.reelRef = true → goal ≠ s.position .reel →
      exec (.jogReelPayout tag x) s = .next
        ((started (move .reel (.toPosition goal) (decide (s.position .reel < goal))
          (decide (((goal - s.position .reel).natAbs : Int) ≤ s.num .reelSlowZone)))).replied
            0x48 tag .accepted .nothing)) ∧
    (clean .reel → s.level .reelTop = false →
      exec (.jogReelTop tag) s = .next
        ((started (move .reel (.toContact .reelTop 0) false
          (!s.drive.reelRef || decide (s.position .reel ≤ s.num .reelSlowZone)))).replied
            0x48 tag .accepted .nothing)) ∧
    (clean .travel → s.level .reelTop = true → s.drive.travelRef = true →
      goal = s.position .travel →
      exec (.jogTravelPosition tag x) s = .next
        ((checked .travel s).replied 0x48 tag (if goal = x then .ok else .clamped)
          (.jog (complete .travel (.toPosition goal) .reached none goal)))) ∧
    (clean .reel → s.drive.reelRef = true → goal = s.position .reel →
      exec (.jogReelPayout tag x) s = .next
        ((checked .reel s).replied 0x48 tag (if goal = x then .ok else .clamped)
          (.jog (complete .reel (.toPosition goal) .reached none goal)))) ∧
    (s.level .reelTop = true →
      exec (.jogReelTop tag) s = .next
        (({ s with
            reel := { s.reel with count := 0, tally := 0, saturated := false }
            drive := { s.drive with reelRef := true } }).replied 0x48 tag .ok
          (.jog (complete .reel (.toContact .reelTop 0) .contact (some .reelTop) 0)))) ∧
    (s.level .reelTop = true → s.level .limitNear = true →
      let home := roundDiv (s.num .homeX * s.axisCpr .travel * 1000) (s.num .travelCircumference)
      let cleared : Quad := { s.travel with tally := 0, saturated := false }
      let homed : State :=
        { s with
          travel := { cleared with count := home }, drive := { s.drive with travelRef := true } }
      (home ≤ 8388607 → -8388608 ≤ home →
        exec (.jogTravelHome tag) s = .next
          (homed.replied 0x48 tag .ok
            (.jog
              (complete .travel .home .contact (some .limitNear) (homed.position .travel))))) ∧
      (clean .travel → home < -8388608 ∨ 8388607 < home →
        exec (.jogTravelHome tag) s = .next
          (({ s with
              travel := cleared, drive := { s.drive with travelRef := false } }).replied
            0x48 tag .ok
            (.jog
              { axis := .travel, kind := .home, outcome := .contact, contact := some .limitNear
                stopPos := none, finalPos := none, referenced := false, check := none }))))

/-- The interlock of R104: in a sound state a travel output is asserted only while REEL_TOP is; a
travel move is refused while REEL_TOP is deasserted, a JOG with INTERLOCK, and no move request of
either requester starts one; a deasserting edge of REEL_TOP ends a travel move in flight with fault
INTERLOCK and every drive output deasserted; it has no effect on a reel move, nor while the drive is
IDLE or FAULTED. -/
def Obligations.WeightUpInterlock : Prop :=
  (∀ s : State, s.driveSound → s.outs.travelFwd = true ∨ s.outs.travelRev = true →
    s.level .reelTop = true) ∧
  (∀ (tag : Byte) (x : Int) (s : State), s.ready →
    (s.run.phase = .idle ∨ s.run.phase = .hold) → s.drive.state = .idle →
    s.level .driveFault = false → s.level .reelTop = false →
    exec (.jogTravelPosition tag x) s = .next (s.replied 0x48 tag .interlock .nothing) ∧
    exec (.jogTravelHome tag) s = .next (s.replied 0x48 tag .interlock .nothing)) ∧
  (∀ (r : MoveRequest) (s : State), r.axis = .travel → s.level .reelTop = false →
    (s.requestMove r).2 ≠ .started false ∧ (s.requestMove r).2 ≠ .started true ∧
    (s.requestMove r).1.drive.state.travelling = s.drive.state.travelling) ∧
  (∀ s : State, s.powered = true → s.contacts.reelTop.since.isSome →
    s.contacts.reelTop.raw = false →
    ∃ t, exec (.debounceExpiry .reelTop) s = .next t ∧ t.level .reelTop = false ∧
      (s.drive.state.travelling = true →
        t.drive.state = .faulted ∧ t.drive.fault.map (·.cause) = some .interlock ∧
        t.outs.driveStill) ∧
      (s.drive.state.travelling = false →
        t.drive = s.drive ∧ t.outs = { s.outs with attn := t.outs.attn }))

/-- The ends of a JOG move that no count and no contact brings about. At the end of settle_time the
axis is checked and the move completes; stall_time with no count is a fault with its record; each
drops the outputs and raises a MOTION notice (R101, R108 to R110, R113). STOP is answered by the
state of the drive: IDLE answers OK; a JOG in flight ends with outcome STOPPED and a MOTION notice;
FAULTED is cleared unless DRIVE_FAULT is asserted (R111, R113). That the position at a stop in
SETTLING is the present one is the model's reading (notes/assumptions/38.md). -/
def Obligations.JogEndsByTimersAndStop : Prop :=
  (∀ (s : State) (m : Move), s.powered = true → m.requester = .host →
    let q := s.quad m.axis.chan
    let kept : Bool := s.referenced m.axis && !q.saturated && decide (q.tally < 3)
    let ended (t : State) (n : MotionNotice) : Prop :=
      t.outs.driveStill ∧ t.quad m.axis.chan = { q with tally := 0, saturated := false } ∧
      t.referenced m.axis = kept ∧ t.link.queue = enqueue (.motion n) s.link.queue ∧
      n.axis = some m.axis ∧ n.kind = some m.kind ∧ n.state = t.drive.state.mode ∧
      n.mono = s.time.mono ∧ n.check.isSome = (s.referenced m.axis && !kept) ∧
      t.run = s.run ∧ t.contacts = s.contacts ∧ t.recmem = s.recmem ∧ t.outs.attn = true
    (∀ since outcome, s.drive.state = .settling m since → m.outcome = some outcome →
      ∃ t n, exec .settleEnd s = .next t ∧ ended t n ∧ t.drive.state = .idle ∧
        t.drive.fault = s.drive.fault ∧
        n.event = (match outcome with
          | .stopped r => .stopped r
          | o => .completed o) ∧
        n.contact = m.contact ∧ n.stopPos = (if kept then m.stopPos else none) ∧
        n.finalPos = (if kept then some (s.position m.axis) else none)) ∧
    (s.drive.state = .moving m →
      ∃ t n, exec .driveStall s = .next t ∧ ended t n ∧ t.drive.state = .faulted ∧
        t.drive.fault =
          some { cause := .stall, axis := some m.axis, kind := some m.kind,
                 position := some (s.position m.axis), mono := s.time.mono } ∧
        n.event = .fault .stall)) ∧
  (∀ (tag : Byte) (s : State), s.ready →
    (s.drive.state = .idle → exec (.stop tag) s = .next (s.replied 0x49 tag .ok .nothing)) ∧
    (s.drive.state = .faulted → s.level .driveFault = true →
      exec (.stop tag) s = .next (s.replied 0x49 tag .faulted .nothing)) ∧
    (s.drive.state = .faulted → s.level .driveFault = false →
      exec (.stop tag) s = .next
        (({ s with drive := { s.drive with state := .idle } }).replied 0x49 tag .ok .nothing)) ∧
    (∀ m, s.drive.state.move? = some m → m.requester = .host →
      ∃ (t : State) (n : MotionNotice), exec (.stop tag) s = .next (t.replied 0x49 tag .ok .nothing) ∧
        t.drive.state = .idle ∧ t.outs.driveStill ∧ t.run = s.run ∧
        t.link.queue = enqueue (.motion n) s.link.queue ∧ n.event = .stopped .host ∧
        n.axis = some m.axis ∧ n.kind = some m.kind ∧
        (s.referenced m.axis = true → (s.quad m.axis.chan).saturated = false →
          (s.quad m.axis.chan).tally < 3 → n.stopPos = some (s.position m.axis))))

/-- A move under way. A count change on its axis stops it where the position has reached its target
or its payout limit, faults it REVERSE after a fall of more than 20 mm from the peak, and otherwise
updates the peak and brings it to phase SLOW within the slow zone. An edge of a contact stops it
(SURFACE, BED, REEL_TOP, LIMIT_NEAR, the last two with their references), faults it (LIMIT,
INTERLOCK, DRIVE) or leaves it; in SETTLING the faults and the references remain and the outcome
stands. The first stop or fault decides; a stop settles, or completes at once where settle_time is
0; a fault drops the outputs, writes the record and checks the axis (R100, R101, R104, R106, R107,
R109, R110, R113). That a reference edge in SETTLING leaves the recorded outcome and position
(notes/assumptions/38.md), that a home position outside the count range leaves a REFERENCED travel
axis UNREFERENCED (notes/assumptions/14.md), and that a HOME records home_x as the position at the
contact (notes/assumptions/29.md) is the model's reading. -/
def Obligations.MovingDriveStopsAndFaults : Prop :=
  let still (o : Outputs) : Outputs := DriveState.idle.outputs o
  let faulted (s : State) (m : Move) (q : Quad) (p : Int) (cause : DriveFault) (c : Instr) : Prop :=
    ∃ (t : State) (n : MotionNotice), exec c s = .next t ∧ t.drive.state = .faulted ∧
      t.drive.fault =
        some { cause := cause, axis := some m.axis, kind := some m.kind, position := some p,
               mono := s.time.mono } ∧
      t.outs.driveStill ∧ t.quad m.axis.chan = { q with tally := 0, saturated := false } ∧
      t.referenced m.axis = (s.referenced m.axis && !q.saturated && decide (q.tally < 3)) ∧
      t.run = s.run ∧ t.link.queue = enqueue (.motion n) s.link.queue ∧
      n.event = .fault cause ∧ n.axis = some m.axis
  (∀ (s : State) (m : Move) (a b : Bool), s.powered = true → s.drive.state = .moving m →
    m.kind.suits m.axis = true →
    let seen := (s.quad m.axis.chan).observe a b
    let c : Instr := .quadratureTransition m.axis.chan a b
    let u : State := s.setQuad m.axis.chan seen.1
    let p := u.position m.axis
    let peak := if m.forward then max m.peak p else min m.peak p
    let m' : Move := { m with countAt := s.ticks, peak := peak }
    let stops (o : MoveOutcome) : Prop :=
      match m.kind with
      | .toPosition x => o = .reached ∧ if m.forward then x ≤ p else p ≤ x
      | .toContact c l => o = .payoutLimit ∧ c ≠ .reelTop ∧ l ≤ p
      | .home => False
    let fallen : Prop := 20 < if m.forward then peak - p else p - peak
    let zone := s.num m.axis.slowZone
    let near : Prop :=
      match m.kind with
      | .toPosition x => ((x - p).natAbs : Int) ≤ zone
      | .toContact c l => if c = .reelTop then s.drive.reelRef = true → p ≤ zone else l - p ≤ zone
      | .home => s.drive.travelRef = true → p - s.num .homeX ≤ zone
    let goesOn (k : Move) : State :=
      { u with
        drive := { s.drive with state := .moving k }
        outs := (DriveState.moving k).outputs s.outs }
    (∀ ch, ch ≠ m.axis.chan →
      exec (.quadratureTransition ch a b) s =
        .next (s.setQuad ch ((s.quad ch).observe a b).1)) ∧
    (seen.2 = false → exec c s = .next u) ∧
    (seen.2 = true →
      (∀ o, stops o →
        let stopped : Move :=
          { m' with outcome := some o, contact := none, stopPos := some p }
        (s.num .settleTime ≠ 0 →
          exec c s = .next
            { u with
              drive := { s.drive with state := .settling stopped s.ticks }
              outs := still s.outs }) ∧
        (s.num .settleTime = 0 → m.requester = .host →
          ∃ t n, exec c s = .next t ∧ t.drive.state = .idle ∧ t.outs.driveStill ∧
            t.link.queue = enqueue (.motion n) s.link.queue ∧ n.event = .completed o)) ∧
      ((∀ o, ¬ stops o) → fallen → m.requester = .host → faulted s m seen.1 p .reverse c) ∧
      ((∀ o, ¬ stops o) → ¬ fallen →
        (m.slowPhase = true ∨ ¬ near → exec c s = .next (goesOn m')) ∧
        (m.slowPhase = false → near →
          exec c s = .next (goesOn { m' with slowPhase := true, phaseAt := s.ticks }))))) ∧
  (∀ (s : State) (i : Contact), s.powered = true → (s.contacts.get i).since.isSome →
    (s.contacts.get i).armed = false →
    let raw := (s.contacts.get i).raw
    let c : Instr := .debounceExpiry i
    let edged : State :=
      { s with
        contacts := s.contacts.set i { s.contacts.get i with level := raw, since := none } }
    let stowed : State :=
      { edged with
        reel := { s.reel with count := 0, saturated := false }
        drive := { s.drive with reelRef := true } }
    let home := roundDiv (s.num .homeX * s.axisCpr .travel * 1000) (s.num .travelCircumference)
    let homed : State :=
      if -8388608 ≤ home ∧ home ≤ 8388607 then
        { edged with
          travel := { s.travel with count := home, saturated := false }
          drive := { s.drive with travelRef := true } }
      else { edged with drive := { s.drive with travelRef := false } }
    let limits (m : Move) : Prop :=
      m.axis = .travel ∧ raw = true ∧
        (i = .limitFar ∧ m.forward = true ∨
          i = .limitNear ∧ m.forward = false ∧ m.kind ≠ .home)
    let faults (m : Move) : Prop :=
      m.requester = .host → s.run.phase.working = false →
        let fault (cause : DriveFault) : Prop :=
          faulted s m (s.quad m.axis.chan) (s.position m.axis) cause c
        (limits m → fault .limit) ∧
        (m.axis = .travel → i = .reelTop → raw = false → fault .interlock) ∧
        (i = .driveFault → raw = true → fault .drive)
    (∀ m, s.drive.state = .moving m →
      let settles (t : State) (contact : Contact) (p : Int) : State :=
        { t with
          drive :=
            { t.drive with
              state :=
                .settling
                  { m with outcome := some .contact, contact := some contact, stopPos := some p }
                  s.ticks }
          outs := still s.outs }
      let touches : Prop :=
        i = .surface ∧ (∃ l, m.kind = .toContact .surface l) ∨ i = .bed ∧ m.forward = true
      faults m ∧
      (s.num .settleTime ≠ 0 → raw = true →
        (m.axis = .reel →
          (touches → exec c s = .next (settles edged i (s.position .reel))) ∧
          (i = .reelTop → m.forward = false →
            exec c s = .next (settles stowed .reelTop 0))) ∧
        (m.axis = .travel → i = .limitNear → m.kind = .home → m.forward = false →
          exec c s = .next (settles homed .limitNear (s.num .homeX)))) ∧
      (i ≠ .driveFault → (raw = true ∨ m.axis = .reel ∨ i ≠ .reelTop) →
        ¬ (m.axis = .reel ∧ raw = true ∧ (touches ∨ i = .reelTop ∧ m.forward = false)) →
        ¬ (m.axis = .travel ∧ raw = true ∧ i = .limitNear ∧ m.kind = .home) → ¬ limits m →
        exec c s = .next edged)) ∧
    (∀ m since, s.drive.state = .settling m since →
      faults m ∧
      (raw = true → m.axis = .reel → i = .reelTop → m.forward = false →
        exec c s = .next stowed) ∧
      (raw = true → m.axis = .travel → i = .limitNear → m.kind = .home → m.forward = false →
        exec c s = .next homed))) ∧
  ∀ (s : State) (m : Move) (since : Nat) (ch : Chan) (a b : Bool), s.powered = true →
    s.drive.state = .settling m since →
    exec (.quadratureTransition ch a b) s = .next (s.setQuad ch ((s.quad ch).observe a b).1)

/-! Gauging runs (chapters 9 and 10). -/

/-- START_RUN. It is refused, by the first line of R127 that applies, RUN_ACTIVE with a run in
progress, INVALID without a VALID buffer or with a load in flight, LOCKOUT, NO_STAGE while the
reported stage is MISSING, FAULTED and BUSY by the drive state, with nothing changed. Otherwise it
claims a slot and is answered with it: an EMPTY slot, the lowest, or else the slot with the lowest
run number; the header is RUNNING with the record of entry 1 alone, the snapshot holds the settings
and entries 1 to n with their methods resolved, and, the weight stowed and referenced and the
carriage not, the run homes the carriage in STARTING (R119, R127 to R129, R131, R172). -/
def Obligations.StartRunClaimsSlot : Prop :=
  (∀ (tag : Byte) (s : State), s.ready →
    let refused (code : ReplyCode) : Prop :=
      exec (.startRun tag) s = .next (s.replied 0x60 tag code .nothing)
    (s.run.phase ≠ .idle → refused .runActive) ∧
    (s.run.phase = .idle →
      (s.plan.buffer ≠ .valid ∨ s.isLoading = true ∨ s.plan.header = none → refused .invalid) ∧
      (s.plan.buffer = .valid → s.isLoading = false → s.plan.header.isSome →
        (s.lockout = true → refused .lockout) ∧
        (s.lockout = false →
          (s.stage.reported.quality = .missing → refused .noStage) ∧
          (s.stage.reported.quality ≠ .missing →
            (s.drive.state = .faulted → refused .faulted) ∧
            (∀ m, s.drive.state.move? = some m → refused .busy)))))) ∧
  ∀ (tag : Byte) (s : State) (h : PlanHeader) (plan : List PlanEntry) (x d c : Int)
      (others : List PlanEntry), s.ready → s.run.phase = .idle →
    plan = .edge x d c :: others → plan.length = h.count →
    (∀ i, i < h.count → (s.plan.entries[i]?).join = plan[i]?) →
    s.plan.buffer = .valid → s.isLoading = false → s.plan.header = some h →
    s.lockout = false → s.stage.reported.quality ≠ .missing → s.drive.state = .idle →
    s.drive.reelRef = true → s.level .reelTop = true → s.level .driveFault = false →
    s.drive.travelRef = false → s.level .limitNear = false → s.recmem.slots.length = 8 →
    ∃ (t : State) (slot : Nat) (r : RunResult) (m : Move), exec (.startRun tag) s = .next
        (t.replied 0x60 tag .ok (.runStarted (min (s.marker.runNumber + 1) 4294967295) slot)) ∧
      1 ≤ slot ∧ slot ≤ 8 ∧
      (∀ k, 1 ≤ k → k ≤ 8 → s.recmem.slot k = none → s.recmem.slot slot = none ∧ slot ≤ k) ∧
      (∀ a k b, s.recmem.slot slot = some a → s.recmem.slot k = some b →
        a.header.runNumber ≤ b.header.runNumber) ∧
      t.marker =
        { active := true, slot := slot, runNumber := min (s.marker.runNumber + 1) 4294967295 } ∧
      t.recmem.slot slot = some r ∧ r.header.status = .running ∧
      r.header.runNumber = t.marker.runNumber ∧ r.header.station = s.identity.getD 0 ∧
      r.header.name = h.name ∧ r.header.count = h.count ∧
      r.header.startTime.mono = s.time.mono ∧
      r.header.startStage.quality = s.stage.reported.quality ∧ r.header.endTime = none ∧
      r.header.discharge = none ∧
      r.verts =
        [{ index := 1, kind := .edge, planX := x, actualX := x, depth := some d, method := none
           points := [], velocity := none, shallow := false, failed := none
           pointFailed := false, offset := false, interpolated := false }] ∧
      t.run.phase = .starting ∧ t.run.current = 2 ∧ t.run.causes = .none ∧
      t.run.snap =
        some
          { header := h, settings := s.settings
            entries := plan.map fun e =>
              match e with
              | .edge x d c => .edge x d c
              | .metered x m t r => .metered x (if m = .default then h.method else m) t r } ∧
      t.drive.state = .moving m ∧ m.requester = .run ∧ m.axis = .travel ∧ m.kind = .home ∧
      t.outs.travelRev = true ∧ t.plan = s.plan ∧ t.settings = s.settings ∧
      t.stage = s.stage ∧ t.recmem.recs = s.recmem.recs

/-- The run measures its verticals: what it does when SETTLE_END completes its move and the axis is
still referenced, in STARTING, TRAVEL, SOUND, SET_POINT and RETRACT. The weight stowed, the carriage
is homed, or goes to the next METERED entry; the carriage there, the water surface and then the bed
are looked for; the depth chooses the method and places its points; a vertical without surface or
bed, too shallow, or with a point out of reach is written and the weight raised, or, where REEL_TOP
is asserted still, the carriage goes on at once; each point set waits for its exposure; after the
last METERED entry the carriage goes home (R108, R130 to R136, R139). A move asked for starts where it is not complete at once and nothing refuses it (R103, R105).
That the exposure waits for EXPOSURE_START even while the multiplier is LOCKED is the model's
reading (notes/assumptions/5.md). -/
def Obligations.RunMeasuresVerticals : Prop :=
  ∀ (s : State) (m : Move) (since : Nat) (o : MoveOutcome) (snap : Snapshot) (r : RunResult),
    s.powered = true → s.drive.state = .settling m since → m.requester = .run →
    m.outcome = some o → (∀ why, o ≠ .stopped why) → s.referenced m.axis = true →
    (s.quad m.axis.chan).saturated = false → (s.quad m.axis.chan).tally < 3 →
    s.level .driveFault = false → s.run.snap = some snap →
    s.recmem.slot s.marker.slot = some r →
    let num (i : SettingId) : Int := snap.settings.num i
    let payout := max 0 (min 100000 (num .maxPayout))
    let asks (t : State) (ax : Axis) (k : MoveKind) (forward : Bool) : Prop :=
      ∃ m', t.drive.state = .moving m' ∧ m'.requester = .run ∧ m'.axis = ax ∧ m'.kind = k ∧
        m'.forward = forward ∧ t.outs = (DriveState.moving m').outputs t.outs
    let next (holds : State → Prop) : Prop :=
      ∃ t, exec .settleEnd s = .next t ∧ t.marker = s.marker ∧ t.run.snap = s.run.snap ∧
        t.run.causes = s.run.causes ∧ holds t
    let clean (ax : Axis) : Prop :=
      s.referenced ax = true ∧ (s.quad ax.chan).saturated = false ∧ (s.quad ax.chan).tally < 3
    let onward (i : Nat) (holds : State → Prop) : Prop :=
      (∀ x method e n, snap.entries[i - 1]? = some (.metered x method e n) → clean .travel →
        -1000000 ≤ x → x ≤ 1000000 → x ≠ s.position .travel →
        (s.position .travel < x → s.level .limitFar = false) →
        (x < s.position .travel → s.level .limitNear = false) →
        next fun t => t.run.phase = .travel ∧ t.run.current = i ∧ holds t ∧
          asks t .travel (.toPosition x) (decide (s.position .travel < x))) ∧
      ((∀ x method e n, snap.entries[i - 1]? ≠ some (.metered x method e n)) →
        s.level .limitNear = false →
        next fun t => t.run.phase = .home ∧ t.run.current = i ∧ holds t ∧ asks t .travel .home false)
    let writes (holds : VertRecord → Prop) (t : State) : Prop :=
      ∃ v rest, (t.recmem.slot s.marker.slot).map (·.verts) = some (r.verts ++ v :: rest) ∧
        v.index = s.run.current ∧ v.kind = .metered ∧ v.velocity = none ∧ holds v ∧
        (s.run.current + 1 ≠ snap.entries.length → rest = []) ∧
        (∀ x d c, s.run.current + 1 = snap.entries.length →
          snap.entries[s.run.current]? = some (.edge x d c) →
          rest.map (fun w => (w.index, w.kind, w.actualX, w.depth)) =
            [(snap.entries.length, .edge, x, some d)])
    let retracts (holds : VertRecord → Prop) : Prop :=
      (s.level .reelTop = false →
        next fun t => t.run.phase = .retract ∧
          asks t .reel (.toContact .reelTop payout) false ∧ writes holds t) ∧
      (s.level .reelTop = true → onward (s.run.current + 1) (writes holds))
    (s.run.phase = .starting → s.level .reelTop = true → 1 ≤ s.run.current →
      ((∃ c l, m.kind = .toContact c l) → s.drive.travelRef = false → s.level .limitNear = false →
        next fun t => t.run.phase = .starting ∧ asks t .travel .home false) ∧
      ((∃ c l, m.kind = .toContact c l) → s.drive.travelRef = true →
        onward s.run.current fun t => t.recmem = s.recmem) ∧
      (m.kind = .home → onward s.run.current fun t => t.recmem = s.recmem)) ∧
    (s.run.phase = .travel → m.axis = .travel → clean .reel → s.level .surface = false →
      s.position .reel < payout →
      next fun t => t.run.phase = .sound ∧
        t.run.vertical.actualX = some (s.position .travel) ∧
        asks t .reel (.toContact .surface payout) true) ∧
    (s.run.phase = .sound → m.axis = .reel →
      (∀ l, m.kind = .toContact .surface l → m.contact = some .surface → s.level .bed = false →
        s.position .reel < payout →
        next fun t => t.run.phase = .sound ∧ t.run.vertical.surface = m.stopPos ∧
          asks t .reel (.toContact .bed payout) true) ∧
      (∀ e, s.run.current ≠ 0 →
        snap.entries[s.run.current - 1]? = some e → s.run.vertical.pointFailed = false →
        s.run.vertical.method = none → s.run.vertical.points = [] →
        s.run.vertical.failed = none →
        (∀ l, m.kind = .toContact .surface l → m.contact ≠ some .surface →
          retracts fun v => v.failed = some .noSurface ∧ v.depth = none ∧ v.points = []) ∧
        (∀ l, m.kind = .toContact .bed l → m.contact ≠ some .bed →
          retracts fun v => v.failed = some .noBed ∧ v.depth = none ∧ v.points = []) ∧
        (∀ l bed surface x method t' n, m.kind = .toContact .bed l → m.contact = some .bed →
          m.stopPos = some bed → s.run.vertical.surface = some surface →
          e = .metered x method t' n →
          let d := max 0 (bed - surface + num .surfaceElectrodeHeight)
          let least : Method → Int
            | .three => num .threeMin
            | .two => num .twoMin
            | .one => num .oneMin
            | .surface => num .oneMin
          let chain : List Method :=
            match method with
            | .auto => [.three, .two, .one]
            | .three => [.three, .two, .one]
            | .two => [.two, .one]
            | .one => [.one]
            | .surface => [.surface]
            | .default => []
          ((∀ k ∈ chain, d < least k) →
            retracts fun v => v.shallow = true ∧ v.failed = none ∧ v.depth = some d ∧
              v.method = none ∧ v.points = []) ∧
          (∀ (a b : List Method) (k : Method), chain = a ++ k :: b → (∀ j ∈ a, d < least j) →
            least k ≤ d →
            let fractions : List (Option Nat) :=
              match k with
              | .three => [some 800, some 600, some 200]
              | .two => [some 800, some 200]
              | .one => [some 600]
              | .surface => [none]
            let depth (f : Option Nat) : Int :=
              match f with
              | some f => roundDiv (d * f) 1000
              | none => num .surfaceDepth
            let deep (f : Option Nat) : Bool := decide (d - num .meterHeight < depth f)
            let placed (f : Option Nat) : Int :=
              if deep f then d - num .meterHeight else depth f
            let target (f : Option Nat) : Int :=
              surface + placed f + num .meterHeight - num .surfaceElectrodeHeight
            ∀ first others, fractions = first :: others → -1000000 ≤ target first →
              target first ≤ 1000000 → target first ≠ s.position .reel →
              next fun t => t.run.phase = .setPoint ∧ t.run.vertical.depth = some d ∧
                t.run.vertical.method = some k ∧ t.run.vertical.point = 0 ∧
                t.run.vertical.points.map
                    (fun p => (p.fraction, p.depth, p.target, p.flags.clamped, p.repeats)) =
                  fractions.map (fun f => (f, placed f, target f, deep f, [])) ∧
                asks t .reel (.toPosition (target first))
                  (decide (s.position .reel < target first)))))) ∧
    (s.run.phase = .setPoint → m.axis = .reel → (∃ x, m.kind = .toPosition x) →
      ∀ p, s.run.vertical.points[s.run.vertical.point]? = some p →
        (m.contact ≠ some .reelTop →
          next fun t => t.run.phase = .expose ∧ t.run.exposure = .waiting ∧
            t.drive.state = .idle ∧ t.outs.driveStill ∧
            t.run.vertical =
              { s.run.vertical with
                retry := 0
                points :=
                  s.run.vertical.points.set s.run.vertical.point
                    { p with
                      actual := some (s.position .reel)
                      flags :=
                        { p.flags with
                          bedStop := p.flags.bedStop || decide (m.contact = some .bed) } } }) ∧
        (∀ e, m.contact = some .reelTop → s.run.current ≠ 0 →
          snap.entries[s.run.current - 1]? = some e →
          retracts fun v => v.pointFailed = true ∧
            v.points.length = s.run.vertical.point + 1 ∧
            v.points.getLast?.bind (·.failure) = some .placement)) ∧
    (s.run.phase = .retract → m.axis = .reel → s.level .reelTop = true →
      onward (s.run.current + 1) fun t => t.recmem = s.recmem)

/-- The end of an exposure in EXPOSE stops ROTOR and keeps the repeat, its count and saturated flag:
while repeats are wanting the next one waits for the lock; after the last repeat of a point that is
not the last one the next point is set; after the last point the record of the vertical is written
with every kept repeat, after the last METERED entry the second EDGE with it, and the weight is
raised in RETRACT (R136, R137, R139). That the next repeat waits for EXPOSURE_START even while the
multiplier is LOCKED is the model's reading (notes/assumptions/5.md). -/
def Obligations.ExposureExpiryKeepsRepeat : Prop :=
  ∀ (s : State) (start : Nat) (x : Int) (method : EntryMethod) (seconds repeats : Nat)
      (p : Point), s.powered = true → s.run.phase = .expose → s.run.exposure = .running start →
    s.snapEntry s.run.current = some (.metered x method seconds repeats) →
    s.run.vertical.points[s.run.vertical.point]? = some p →
    let kept : Point :=
      { p with
        repeats := p.repeats ++ [{ count := s.rotor.count, saturated := s.rotor.saturated }] }
    let points := s.run.vertical.points.set s.run.vertical.point kept
    (p.repeats.length + 1 < repeats →
      exec .exposureExpiry s = .next
        { s with
          rotor := { s.rotor with counting := false }
          run :=
            { s.run with
              exposure := .waiting, vertical := { s.run.vertical with points := points } } }) ∧
    (repeats ≤ p.repeats.length + 1 → s.drive.state = .idle → s.level .driveFault = false →
      s.level .reelTop = false →
      (∀ next, s.run.vertical.points[s.run.vertical.point + 1]? = some next →
        s.drive.reelRef = true → s.reel.saturated = false → s.reel.tally < 3 →
        -1000000 ≤ next.target → next.target ≤ 1000000 → next.target ≠ s.position .reel →
        ∃ t m, exec .exposureExpiry s = .next t ∧ t.run.phase = .setPoint ∧
          t.run.vertical =
            { s.run.vertical with points := points, point := s.run.vertical.point + 1 } ∧
          t.run.current = s.run.current ∧ t.run.exposure = .none ∧
          t.rotor = { s.rotor with counting := false } ∧ t.recmem = s.recmem ∧
          t.drive.state = .moving m ∧
          m.kind = .toPosition next.target ∧ m.axis = .reel ∧ m.requester = .run) ∧
      (s.run.vertical.point + 1 = s.run.vertical.points.length →
        ∀ r snap, s.recmem.slot s.marker.slot = some r → s.run.snap = some snap →
          let v :=
            verticalRecord snap.settings s.run.current (.metered x method seconds repeats)
              { s.run.vertical with points := points }
          ∃ (t : State) (rest : List VertRecord) (m : Move),
            exec .exposureExpiry s = .next t ∧ t.run.phase = .retract ∧
            t.run.current = s.run.current ∧ t.run.exposure = .none ∧
            t.rotor = { s.rotor with counting := false } ∧
            t.recmem =
              s.recmem.setSlot s.marker.slot (some { r with verts := r.verts ++ v :: rest }) ∧
            (s.run.current + 1 ≠ snap.entries.length → rest = []) ∧
            (∀ last, s.run.current + 1 = snap.entries.length →
              snap.entries[s.run.current]? = some last →
              rest = [edgeRecord snap.entries.length last]) ∧
            (s.run.vertical.pointFailed = false →
              v.points.map (·.repeats) = points.map (·.repeats)) ∧
            t.drive.state = .moving m ∧ m.requester = .run ∧ m.axis = .reel ∧
            (∃ l, m.kind = .toContact .reelTop l) ∧ t.outs.reelUp = true))

/-- The velocities of a vertical as it is written. A repeat: its rotor speed, the segment used, its
velocity within 0..10 000 and its flags (R152 to R154). A point: the round-mean of its repeats,
between the least and the greatest of them, every flag of a repeat, SPREAD by the widest difference;
a failed point has no velocity (R155, R156). The vertical: its measured mean by the method used,
between the least and the greatest of its point velocities for ONE, TWO and THREE, and absent with a
failed point; OFFSET by the distance from the plan (R139, R157, R158). -/
def Obligations.VerticalVelocitiesComputed : Prop :=
  (∀ (t : Settings) (exposure : Nat) (r : Repeat),
    let k : Nat := if r.saturated then 65535 else r.count
    let speed := roundDiv (k * 1000 * 32768) (t.num .meterPulses * (exposure * 32768))
    let chosen : Nat :=
      if speed < t.num .meterBreak1 then 1 else if speed < t.num .meterBreak2 then 2 else 3
    let j := if t.nat .meterSegments < chosen then t.nat .meterSegments else chosen
    let line (a b : SettingId) : Int := roundDiv (t.num a * speed + t.num b * 1000) 1000000
    let v : Int :=
      if j = 1 then line .meterA1 .meterB1
      else if j = 2 then line .meterA2 .meterB2
      else line .meterA3 .meterB3
    let flags (still fast : Bool) : RepeatFlags :=
      { still := still, fast := fast, saturated := r.saturated }
    (0 < t.num .meterPulses → 0 < exposure →
      speed = roundDiv (k * 1000) (t.num .meterPulses * exposure)) ∧
    (k = 0 ∨ speed < t.num .meterStartSpeed →
      repeatVelocity t exposure r = (0, flags true false)) ∧
    (k ≠ 0 → t.num .meterStartSpeed ≤ speed →
      (v < 0 → repeatVelocity t exposure r = (0, flags true false)) ∧
      (0 ≤ v → v ≤ 10000 → repeatVelocity t exposure r = (v, flags false false)) ∧
      (10000 < v → repeatVelocity t exposure r = (10000, flags false true))) ∧
    0 ≤ (repeatVelocity t exposure r).1 ∧ (repeatVelocity t exposure r).1 ≤ 10000) ∧
  (∀ (t : Settings) (exposure : Nat) (p : Point),
    let q := p.measure t exposure
    let one (r : Repeat) : Int × RepeatFlags := repeatVelocity t exposure r
    q = { p with
          velocity := q.velocity
          flags :=
            { q.flags with clamped := p.flags.clamped, bedStop := p.flags.bedStop } } ∧
    (p.failure.isSome → q = p) ∧
    (p.failure = none → p.repeats ≠ [] → 0 ≤ t.num .spreadLimit →
      ∃ v, q.velocity = some v ∧
        v = roundDiv (p.repeats.map fun r => (one r).1).sum p.repeats.length ∧
        (∃ r ∈ p.repeats, (one r).1 ≤ v) ∧ (∃ r ∈ p.repeats, v ≤ (one r).1) ∧
        (q.flags.still = true ↔ ∃ r ∈ p.repeats, (one r).2.still = true) ∧
        (q.flags.fast = true ↔ ∃ r ∈ p.repeats, (one r).2.fast = true) ∧
        (q.flags.saturated = true ↔ ∃ r ∈ p.repeats, r.saturated = true) ∧
        (q.flags.spread = true ↔ ∃ a ∈ p.repeats, ∃ b ∈ p.repeats,
          t.num .spreadLimit * v < ((one a).1 - (one b).1) * 100))) ∧
  (∀ (coef : Int) (ps : List Point),
    (∀ v, velocityAt ps (some 600) = some v → measuredMean coef .one ps = some v) ∧
    (∀ a b, velocityAt ps (some 200) = some a → velocityAt ps (some 800) = some b →
      measuredMean coef .two ps = some (roundDiv (a + b) 2) ∧
      ∀ v, velocityAt ps (some 600) = some v →
        measuredMean coef .three ps = some (roundDiv (a + 2 * v + b) 4)) ∧
    (∀ v, velocityAt ps none = some v →
      measuredMean coef .surface ps = some (roundDiv (v * coef) 1000)) ∧
    (∀ m v, m ≠ .surface → measuredMean coef m ps = some v →
      (∃ p ∈ ps, ∃ a, p.velocity = some a ∧ a ≤ v) ∧
      (∃ p ∈ ps, ∃ b, p.velocity = some b ∧ v ≤ b))) ∧
  (∀ (t : Settings) (index : Nat) (x : Int) (method : EntryMethod) (exposure n : Nat) (v : Partial),
    let w := verticalRecord t index (.metered x method exposure n) v
    w.index = index ∧ w.kind = .metered ∧ w.planX = x ∧ w.actualX = v.actualX.getD x ∧
    (w.offset = true ↔ t.num .positionTolerance < ((w.actualX - x).natAbs : Int)) ∧
    w.interpolated = false ∧
    (∀ m, v.method = some m → v.pointFailed = false →
      w.points = v.points.map (Point.measure t exposure) ∧
      w.velocity = measuredMean (t.num .surfaceCoef) m w.points) ∧
    (v.method = none ∨ v.pointFailed = true → w.velocity = none))

/-- Holds, motion faults and ends of a run. The weight up in HOLD_RETRACT, the run stays in HOLD
with the hold timer started, or resumes of its own accord where the set is empty (R143, R144). Homed
in HOME, it ends with the end computation written, homed in ABORT_HOME as ABORTED (R140, R148). A
motion fault, a stall of its move, a STOP by the host, a PUT_SETTING that changes the meaning of its
axis, an axis left unreferenced by the check, or a DRIVE_FAULT edge with no move in flight, adds MOTION and leads to HOLD from a working phase, with
the vertical dropped, and from HOLD_RETRACT; in HOME and ABORT_HOME it ends the run with NOT_HOMED
(R101, R130, R142). That a STOP which also leaves its axis UNREFERENCED records STOPPED is the model's
reading (notes/assumptions/40.md). -/
def Obligations.RunHoldsFaultsAndEnds : Prop :=
  ∀ (s : State) (snap : Snapshot) (r : RunResult), s.powered = true → s.run.snap = some snap →
    s.recmem.slot s.marker.slot = some r →
    let sound (m : Move) : Prop :=
      s.referenced m.axis = true ∧ (s.quad m.axis.chan).saturated = false ∧
        (s.quad m.axis.chan).tally < 3
    let homes (t : State) : Prop :=
      ∃ m', t.drive.state = .moving m' ∧ m'.requester = .run ∧ m'.axis = .travel ∧
        m'.kind = .home ∧ t.outs.travelRev = true
    let endStage : Option RunStage :=
      if s.stage.reported.quality = .missing then none
      else s.stage.reported.value.map fun v => { value := v, quality := s.stage.reported.quality }
    let finished (t : State) (q : RunResult) : Prop :=
      t.run.phase = .idle ∧ t.run.snap = none ∧ t.run.holdAt = none ∧
      t.marker = { s.marker with active := false } ∧ t.outs.driveStill ∧
      t.recmem.slot s.marker.slot = some q ∧ t.recmem.recs = s.recmem.recs ∧
      ∃ n, Notice.run n ∈ t.link.queue ∧
        n.event = .ended q.header.status q.header.abortReason q.header.flags
    let computed (notHomed : Bool) : RunResult :=
      endComputation snap s.rating
        { r with
          header :=
            { r.header with
              endTime := some s.time.runTime, endStage := endStage
              flags :=
                { r.header.flags with notHomed := r.header.flags.notHomed || notHomed } } }
    let aborted (notHomed : Bool) : RunResult :=
      { r with
        header :=
          { r.header with
            status := .aborted, abortReason := some (s.run.abortReason.getD .host)
            endTime := some s.time.runTime, endStage := endStage, meanStage := none
            discharge := none, area := none, meanVelocity := none, ratingFlow := none
            generation := none, deviation := none, interpCount := none
            flags :=
              { poor := false, unsteady := false, order := false
                notHomed := r.header.flags.notHomed || notHomed } } }
    let held (t : State) : Prop :=
      t.run.phase = .hold ∧ t.run.holdAt = some s.time.mono ∧ t.outs.driveStill ∧
      t.recmem = s.recmem ∧ t.marker = s.marker
    let faulted (t : State) (cause : MotionCause) : Prop :=
      (s.run.phase.working = true →
        held t ∧ t.run.causes = { s.run.causes with motion := true } ∧
        t.run.motionCause = some cause ∧ t.run.exposure = .none ∧
        t.run.vertical.points = [] ∧ t.run.vertical.depth = none ∧
        t.run.current =
          (if s.run.phase = .retract then s.run.current + 1 else s.run.current)) ∧
      (s.run.phase = .holdRetract →
        held t ∧ t.run.causes = { s.run.causes with motion := true } ∧
        t.run.motionCause = some cause ∧ t.run.current = s.run.current) ∧
      (s.run.phase = .home → finished t (computed true) ∧ t.run.motionCause = some cause) ∧
      (s.run.phase = .abortHome → finished t (aborted true) ∧ t.run.motionCause = some cause)
    let moved : Prop :=
      s.run.phase.working = true ∨ s.run.phase = .holdRetract ∨ s.run.phase = .home ∨
        s.run.phase = .abortHome
    (∀ m since o, s.drive.state = .settling m since → m.requester = .run → m.outcome = some o →
      (∀ why, o ≠ .stopped why) →
      (sound m →
        (∀ c l, s.run.phase = .holdRetract → m.kind = .toContact c l →
          (s.run.causes ≠ .none →
            ∃ t, exec .settleEnd s = .next t ∧ held t ∧ t.run.causes = s.run.causes ∧
              t.run.current = s.run.current ∧ t.drive.state = .idle) ∧
          (s.run.causes = .none → s.drive.reelRef = true → s.drive.travelRef = false →
            s.level .reelTop = true → s.level .limitNear = false →
            s.level .driveFault = false →
            ∃ t, exec .settleEnd s = .next t ∧ t.run.phase = .starting ∧
              t.run.holdAt = none ∧ t.run.current = s.run.current ∧ homes t ∧
              t.recmem = s.recmem)) ∧
        (s.run.phase = .home → m.kind = .home →
          ∃ t, exec .settleEnd s = .next t ∧ finished t (computed false)) ∧
        (s.run.phase = .abortHome →
          (m.kind = .home → ∃ t, exec .settleEnd s = .next t ∧ finished t (aborted false)) ∧
          (∀ c l, m.kind = .toContact c l → s.level .reelTop = true →
            s.level .limitNear = false → s.level .driveFault = false →
            ∃ t, exec .settleEnd s = .next t ∧ t.run.phase = .abortHome ∧ homes t ∧
              t.recmem = s.recmem))) ∧
      (¬ sound m → moved → ∃ t, exec .settleEnd s = .next t ∧ faulted t .reference)) ∧
    (∀ m, s.drive.state = .moving m → m.requester = .run → moved →
      ∃ t, exec .driveStall s = .next t ∧ faulted t .stall ∧ t.drive.state = .faulted) ∧
    (∀ tag m, s.link.reply = none → s.drive.state.move? = some m → m.requester = .run → moved →
      ∃ t : State, exec (.stop tag) s = .next (t.replied 0x49 tag .ok .nothing) ∧
        faulted t .stopped ∧ t.drive.state = .idle) ∧
    (s.contacts.driveFault.since.isSome → s.contacts.driveFault.raw = true →
      s.drive.state = .idle → s.run.phase.working = true →
      ∃ t, exec (.debounceExpiry .driveFault) s = .next t ∧ faulted t .drive ∧
        t.drive.state = .faulted) ∧
    (∀ (tag : Byte) (id : BitVec 16) (i : SettingId) (x : Int) (m : Move), s.link.reply = none →
      s.drive.state.move? = some m → m.requester = .run → moved →
      settingOfCode id = some i → i.kind.accept (some x) = some (some x, false) →
      s.settings.vals.length = 99 →
      (i = m.axis.circ ∨ i = m.axis.lines) ∧ s.settings.get i ≠ some x ∨
        i = multSetting m.axis.chan ∧ x.toNat ≠ (s.quad m.axis.chan).mult ∨
        i = dirSetting m.axis.chan ∧ decide (x.toNat = 1) ≠ (s.quad m.axis.chan).reversed →
      ∃ t : State, exec (.putSetting tag id (some x)) s =
          .next (t.replied 0x21 tag .ok (.storedSetting (some x))) ∧
        faulted t .setting ∧ t.drive.state = .idle ∧ t.referenced m.axis = false ∧
        t.settings = s.settings.put i (some x))

/-- HOLD_RUN and RESUME_RUN. HOLD_RUN in HOLD_RETRACT or HOLD adds HOST, in a working phase it
raises the weight in HOLD_RETRACT, and in the other phases it is refused STATE. RESUME_RUN is
refused outside HOLD and answers BUSY while a JOG runs. Otherwise it removes HOST, and MOTION where
the drive is IDLE or its fault can be cleared, a FAULTED drive becoming IDLE with its fault record
kept; while LOCKOUT remains it answers LOCKOUT, while MOTION alone remains FAULTED, and with an
empty set it answers OK and enters STARTING. A drive still FAULTED, or DRIVE_FAULT asserted, then
refuses the move and brings the run back to HOLD with MOTION and the cause FAULTED. Every reply
carries the phase and the set after the request (R103, R110, R111, R130, R141 to R146). -/
def Obligations.HoldAndResumeRun : Prop :=
  ∀ (tag : Byte) (s : State), s.ready →
    let held : HoldCauses := { s.run.causes with host := true }
    let raising (t : State) : Prop :=
      ∃ m, t.drive.state = .moving m ∧ m.requester = .run ∧ m.axis = .reel ∧
        m.forward = false ∧ (∃ l, m.kind = .toContact .reelTop l) ∧ t.outs.reelUp = true
    (s.run.phase = .holdRetract ∨ s.run.phase = .hold →
      exec (.holdRun tag) s = .next
        (({ s with run := { s.run with causes := held } }).replied 0x61 tag .ok
          (.runState s.run.phase held))) ∧
    (s.run.phase = .idle ∨ s.run.phase = .home ∨ s.run.phase = .abortHome →
      exec (.holdRun tag) s = .next
        (s.replied 0x61 tag .state (.runState s.run.phase s.run.causes))) ∧
    (s.run.phase.working = true → s.drive.state = .idle ∨ s.runMove = true →
      s.level .driveFault = false → s.level .reelTop = false →
      ∃ t, exec (.holdRun tag) s = .next (t.replied 0x61 tag .ok (.runState .holdRetract held)) ∧
        t.run.phase = .holdRetract ∧ t.run.causes = held ∧ t.run.exposure = .none ∧
        raising t ∧ t.recmem = s.recmem ∧ t.settings = s.settings) ∧
    (s.run.phase ≠ .hold →
      exec (.resumeRun tag) s = .next
        (s.replied 0x62 tag .state (.runState s.run.phase s.run.causes))) ∧
    (∀ m, s.run.phase = .hold → s.drive.state.move? = some m →
      exec (.resumeRun tag) s = .next
        (s.replied 0x62 tag .busy (.runState .hold s.run.causes))) ∧
    (s.run.phase = .hold → s.drive.state = .idle ∨ s.drive.state = .faulted →
      let clears : Prop := s.drive.state = .idle ∨ s.level .driveFault = false
      let left : HoldCauses :=
        { host := false, lockout := s.run.causes.lockout
          motion := s.run.causes.motion && !decide clears }
      let u : State :=
        { s with
          run := { s.run with causes := left }
          drive :=
            { s.drive with
              state := if s.run.causes.motion = true ∧ clears then .idle else s.drive.state } }
      (left.lockout = true →
        exec (.resumeRun tag) s = .next (u.replied 0x62 tag .lockout (.runState .hold left))) ∧
      (left.lockout = false → left.motion = true →
        exec (.resumeRun tag) s = .next (u.replied 0x62 tag .faulted (.runState .hold left))) ∧
      (left = .none → u.drive.state = .idle → s.level .driveFault = false →
        s.level .reelTop = false →
        ∃ t, exec (.resumeRun tag) s = .next
            (t.replied 0x62 tag .ok (.runState .starting .none)) ∧
          t.run.phase = .starting ∧ t.run.causes = .none ∧ t.run.holdAt = none ∧
          t.run.current = s.run.current ∧ raising t ∧ t.recmem = s.recmem ∧
          t.drive.fault = s.drive.fault) ∧
      (left = .none → s.drive.reelRef = false ∨ s.level .reelTop = false →
        u.drive.state = .faulted ∨ s.level .driveFault = true →
        let again : HoldCauses := { HoldCauses.none with motion := true }
        ∃ t : State, exec (.resumeRun tag) s = .next
            (t.replied 0x62 tag .ok (.runState .hold again)) ∧
          t.run.phase = .hold ∧ t.run.causes = again ∧ t.run.motionCause = some .faulted ∧
          t.run.holdAt = some s.time.mono ∧ t.run.current = s.run.current ∧
          t.drive.state = .faulted ∧ t.recmem = s.recmem ∧
          (u.drive.state = .idle → t.drive.fault.map (·.cause) = some .drive)))

/-- The ends of a run by ABORT_RUN and by hold_limit: with MOTION in the set of a HOLD the result is
closed at once as ABORTED with NOT_HOMED; from HOLD without MOTION, and from a working phase,
HOLD_RETRACT and HOME, a move of the run in flight among them, the weight is raised in ABORT_HOME,
and with the weight at the top the carriage is homed at once; the partial vertical is dropped, and
the current vertical advances in RETRACT, where it is written. The hold timer needs no link that is
ready (R142, R144, R147, R148, R173). That HOLD_LIMIT_EXPIRY outside HOLD leaves the state as it is,
is the model's form of the event (notes/assumptions/1.md). -/
def Obligations.AbortAndHoldLimitEndRun : Prop :=
  ∀ (tag : Byte) (s : State), s.powered = true →
    let closed (t : State) (reason : AbortReason) : Prop :=
      t.run.phase = .idle ∧ t.marker = { s.marker with active := false } ∧
      t.drive = s.drive ∧ t.outs = { s.outs with attn := t.outs.attn } ∧
      ∀ r, s.recmem.slot s.marker.slot = some r →
        ∃ r', t.recmem.slot s.marker.slot = some r' ∧ r'.header.status = .aborted ∧
          r'.header.abortReason = some reason ∧ r'.header.flags.notHomed = true ∧
          r'.header.endTime = some s.time.runTime ∧ r'.header.discharge = none ∧
          r'.verts = r.verts
    let raising (t : State) (reason : AbortReason) : Prop :=
      t.run.phase = .abortHome ∧ t.run.abortReason = some reason ∧ t.run.holdAt = none ∧
      t.recmem = s.recmem ∧ t.marker = s.marker ∧
      ∃ m l, t.drive.state = .moving m ∧ m.requester = .run ∧
        m.kind = .toContact .reelTop l ∧ t.outs.reelUp = true
    let homing (t : State) (reason : AbortReason) : Prop :=
      t.run.phase = .abortHome ∧ t.run.abortReason = some reason ∧ t.run.holdAt = none ∧
      t.recmem = s.recmem ∧ t.marker = s.marker ∧
      ∃ m, t.drive.state = .moving m ∧ m.requester = .run ∧ m.axis = .travel ∧ m.kind = .home ∧
        t.outs.travelRev = true
    let underWay : Prop :=
      (s.run.phase.working = true ∨ s.run.phase = .holdRetract ∨ s.run.phase = .home) ∧
        s.run.holdAt = none ∧ (s.drive.state = .idle ∨ s.runMove = true)
    let dropped (t : State) : Prop :=
      t.run.exposure = .none ∧ t.run.vertical.points = [] ∧ t.run.vertical.depth = none ∧
      t.run.current = if s.run.phase = .retract then s.run.current + 1 else s.run.current
    (s.link.reply = none → s.run.phase = .idle →
      exec (.abortRun tag) s = .next (s.replied 0x63 tag .state .nothing)) ∧
    (s.link.reply = none → s.run.phase = .abortHome →
      exec (.abortRun tag) s = .next (s.replied 0x63 tag .ok .nothing)) ∧
    (s.run.phase = .hold → s.run.causes.motion = true →
      (s.link.reply = none →
        ∃ t, exec (.abortRun tag) s = .next (t.replied 0x63 tag .ok .nothing) ∧ closed t .host) ∧
      (∃ t, exec .holdLimitExpiry s = .next t ∧ closed t .holdLimit)) ∧
    (s.run.phase = .hold → s.run.causes.motion = false → s.drive.state = .idle →
      s.level .driveFault = false →
      (s.level .reelTop = false →
        (s.link.reply = none →
          ∃ t, exec (.abortRun tag) s = .next (t.replied 0x63 tag .ok .nothing) ∧
            raising t .host) ∧
        (∃ t, exec .holdLimitExpiry s = .next t ∧ raising t .holdLimit)) ∧
      (s.level .reelTop = true → s.level .limitNear = false →
        (s.link.reply = none →
          ∃ t, exec (.abortRun tag) s = .next (t.replied 0x63 tag .ok .nothing) ∧
            homing t .host) ∧
        (∃ t, exec .holdLimitExpiry s = .next t ∧ homing t .holdLimit))) ∧
    (s.run.phase ≠ .hold → exec .holdLimitExpiry s = .next s) ∧
    (s.link.reply = none → underWay → s.level .driveFault = false →
      (s.level .reelTop = false →
        ∃ t, exec (.abortRun tag) s = .next (t.replied 0x63 tag .ok .nothing) ∧
          raising t .host ∧ dropped t) ∧
      (s.level .reelTop = true → s.level .limitNear = false →
        ∃ t, exec (.abortRun tag) s = .next (t.replied 0x63 tag .ok .nothing) ∧
          homing t .host ∧ dropped t))

/-- The end computation on the verticals as written, EDGE first and last and METERED between, a
depth absent exactly for FAILED. Measured means stay; each other METERED vertical takes the mean of
the nearest measured means on the two sides, or the one there is, or 0, with INTERPOLATED; a FAILED
vertical takes the mean of its neighbours' depths, or the left one's where the right one is FAILED;
an EDGE takes its coefficient of its neighbour's velocity (R159 to R162). The widths, the sums and
the totals follow from the completed verticals; two measured means make the result COMPLETE; the
mean stage, the rating check and the flags (R163 to R168). -/
def Obligations.EndComputationCompletesResult : Prop :=
  ∀ (snap : Snapshot) (rating : RatingUnit) (r : RunResult) (n : Nat),
    r.verts.length = n → snap.entries.length = n → 3 ≤ n →
    (∀ i v, r.verts[i]? = some v →
      (v.kind = .edge ↔ i = 0 ∨ i + 1 = n) ∧ (v.depth = none ↔ v.failed ≠ none) ∧
        (v.kind = .edge → v.failed = none) ∧ v.interpolated = false) →
    let q := endComputation snap rating r
    let h := q.header
    let measured (i : Nat) (a : Int) : Prop :=
      ∃ v, r.verts[i]? = some v ∧ v.kind = .metered ∧ v.velocity = some a
    let bare (v : VertRecord) : Bool := decide (v.kind = .metered) && v.velocity.isNone
    let velocity (i : Nat) : Int := ((q.verts[i]?).bind (·.velocity)).getD 0
    let depth (i : Nat) : Int := ((q.verts[i]?).bind (·.depth)).getD 0
    let x (i : Nat) : Int := ((r.verts[i]?).map (·.actualX)).getD 0
    let width (i : Nat) : Int := x (min (i + 1) (n - 1)) - x (i - 1)
    let sq := ((List.range n).map fun i => velocity i * depth i * max 0 (width i)).sum
    let sa := ((List.range n).map fun i => depth i * max 0 (width i)).sum
    let count := (r.verts.filter fun v => decide (v.kind = .metered) && v.velocity.isSome).length
    let interp := (r.verts.filter bare).length
    q.verts.length = n ∧
    (∀ (i : Nat) (v w : VertRecord), r.verts[i]? = some v → q.verts[i]? = some w →
      w = { v with velocity := w.velocity, depth := w.depth, interpolated := w.interpolated } ∧
      w.velocity.isSome ∧ w.depth.isSome ∧ (w.interpolated = bare v) ∧
      (v.failed = none → w.depth = v.depth) ∧
      (v.kind = .metered → v.velocity.isSome → w.velocity = v.velocity)) ∧
    (∀ i v, r.verts[i]? = some v → bare v = true →
      (∀ j k a b, j < i → i < k → measured j a → measured k b →
        (∀ l c, j < l → l < k → ¬ measured l c) → velocity i = roundDiv (a + b) 2) ∧
      (∀ j a, j < i → measured j a → (∀ l c, j < l → ¬ measured l c) → velocity i = a) ∧
      (∀ k b, i < k → measured k b → (∀ l c, l < k → ¬ measured l c) → velocity i = b) ∧
      ((∀ l c, ¬ measured l c) → velocity i = 0)) ∧
    (∀ i v u, r.verts[i]? = some v → v.failed ≠ none → r.verts[i + 1]? = some u →
      (∀ d, u.depth = some d → depth i = roundDiv (depth (i - 1) + d) 2) ∧
      (u.depth = none → depth i = depth (i - 1))) ∧
    (∀ y d c, snap.entries[0]? = some (.edge y d c) →
      velocity 0 = roundDiv (c * velocity 1) 1000) ∧
    (∀ y d c, snap.entries[n - 1]? = some (.edge y d c) →
      velocity (n - 1) = roundDiv (c * velocity (n - 2)) 1000) ∧
    (2 ≤ count → h.status = .complete ∧ h.discharge = some (roundDiv sq 2000000) ∧
      h.area = some (roundDiv sa 200) ∧
      h.meanVelocity = if sa = 0 then none else some (roundDiv sq sa)) ∧
    (count < 2 → h.status = .insufficient ∧ h.discharge = none ∧ h.area = none ∧
      h.meanVelocity = none) ∧
    h.interpCount = some interp ∧
    h.flags.poor = decide (snap.settings.num .maxInterp < interp) ∧
    (h.flags.order = true ↔ ∃ i, i < n ∧ width i < 0) ∧
    h.flags.notHomed = r.header.flags.notHomed ∧
    (r.header.endStage = none → h.meanStage = none ∧ h.ratingFlow = none ∧
      h.generation = none ∧ h.deviation = none ∧ h.flags.unsteady = false) ∧
    (∀ e, r.header.endStage = some e →
      let mean := roundDiv (r.header.startStage.value + e.value) 2
      h.meanStage = some mean ∧ h.ratingFlow = (rating.lookup mean).flow ∧
      h.generation = (rating.lookup mean).generation ∧
      (h.flags.unsteady = true ↔
        snap.settings.num .unsteadyLimit < ((e.value - r.header.startStage.value).natAbs : Int))) ∧
    (∀ a b, h.discharge = some a → h.ratingFlow = some b → b ≠ 0 →
      h.deviation = some (max (-999999) (min 999999 (roundDiv ((a - b) * 1000) b)))) ∧
    (h.discharge = none ∨ h.ratingFlow = none ∨ h.ratingFlow = some 0 → h.deviation = none) ∧
    h = { r.header with
          status := h.status, meanStage := h.meanStage, discharge := h.discharge, area := h.area
          meanVelocity := h.meanVelocity, ratingFlow := h.ratingFlow
          generation := h.generation, deviation := h.deviation, interpCount := h.interpCount
          flags := h.flags }

/-! Flood warning (chapter 6). -/

/-- ACK_WARNING against the current level: at or above it, the acknowledged level becomes the
current level and the siren falls silent; below it, STATE; a code outside the four levels, INVALID;
every reply carries the warning state after the request (R95). -/
def Obligations.AckWarningAnswered : Prop :=
  ∀ (tag : Byte) (level : Nat) (s : State), s.ready →
    let body (t : State) : ReplyBody := .warning
      { current := t.warn.current, ack := t.warn.ack, watch := t.warn.watch,
        warning := t.warn.warning, severe := t.warn.severe, storm := t.storm,
        lockout := t.lockout, sounding := t.sounding }
    (level ≤ 3 → s.warn.current.code ≤ level →
      let t := { s with
        warn := { s.warn with ack := s.warn.current }, outs := { s.outs with siren := false } }
      exec (.ackWarning tag level) s = .next (t.replied 0x38 tag .ok (body t)) ∧
        t.sounding = false) ∧
    (level < s.warn.current.code →
      exec (.ackWarning tag level) s = .next (s.replied 0x38 tag .state (body s))) ∧
    (3 < level →
      exec (.ackWarning tag level) s = .next (s.replied 0x38 tag .invalid (body s)))

/-- An evaluation. A clear enabled level that meets its on-condition for the n_on-th time in a row
latches, and every enabled lower level with it, the highest such level deciding; a latched level's
counters go to 0, and the entry counters of the other clear enabled levels move. When no level
latches, the exit counter of the current level moves, and at the n_off-th off-condition in a row
that level alone is unlatched: the others keep their latches. A HELD or MISSING sample changes
nothing (R83 to R86). -/
def Obligations.EvaluationLatchesAndUnlatches : Prop :=
  (∀ (u : WarningUnit) (t : Settings) (w : WarnSample), t.severe.enabled = true →
    u.severe.latched = false → (t.severe.met w).any = true → t.severe.nOn ≤ 10 →
    t.severe.nOn ≤ u.severe.entry + 1 →
    let v := (u.evaluate t w).1
    v.current = .severe ∧ v.severe = { latched := true, entry := 0, exit := 0 } ∧
    (v.watch.latched = (u.watch.latched || t.watch.enabled)) ∧
    (v.warning.latched = (u.warning.latched || t.warning.enabled)) ∧
    (u.evaluate t w).2 = t.severe.met w) ∧
  (∀ (u : WarningUnit) (t : Settings) (w : WarnSample), u.current = .severe →
    u.watch.latched = true → u.warning.latched = true →
    let v := (u.evaluate t w).1
    (t.severe.offCondition w = true → t.severe.nOff ≤ u.severe.exit + 1 → t.severe.nOff ≤ 20 →
      v.current = .warning ∧ v.severe = { latched := false, entry := 0, exit := 0 }) ∧
    (t.severe.offCondition w = false → 1 ≤ t.severe.nOff →
      v = { u with severe := { u.severe with exit := 0 } })) ∧
  (∀ (u : WarningUnit) (t : Settings) (w : WarnSample),
    (∀ l ∈ [t.watch, t.warning, t.severe], 1 ≤ l.nOn ∧ 1 ≤ l.nOff) →
    let v := (u.evaluate t w).1
    let kinds := (u.evaluate t w).2
    let reaches (c : LevelCell) (l : LevelSettings) : Prop :=
      l.enabled = true ∧ c.latched = false ∧ (l.met w).any = true ∧ l.nOn ≤ min 10 (c.entry + 1)
    let latch : LevelCell := { latched := true, entry := 0, exit := 0 }
    let counted (c : LevelCell) (l : LevelSettings) : LevelCell :=
      if l.enabled = true ∧ c.latched = false then
        { c with entry := if (l.met w).any then min 10 (c.entry + 1) else 0 }
      else c
    let joins (c : LevelCell) (l : LevelSettings) : LevelCell :=
      if c.latched = true ∨ l.enabled = true then latch else c
    let stays (c : LevelCell) (l : LevelSettings) : LevelCell :=
      if c.latched = true then latch else counted c l
    let leaves (c : LevelCell) (l : LevelSettings) : LevelCell :=
      let exit := if l.offCondition w then min 20 (c.exit + 1) else 0
      if l.nOff ≤ exit then { latched := false, entry := 0, exit := 0 } else { c with exit := exit }
    (reaches u.severe t.severe →
      v = { u with
            watch := joins u.watch t.watch, warning := joins u.warning t.warning
            severe := latch } ∧ kinds = t.severe.met w) ∧
    (¬ reaches u.severe t.severe → reaches u.warning t.warning →
      v = { u with
            watch := joins u.watch t.watch, warning := latch
            severe := stays u.severe t.severe } ∧ kinds = t.warning.met w) ∧
    (¬ reaches u.severe t.severe → ¬ reaches u.warning t.warning → reaches u.watch t.watch →
      v = { u with
            watch := latch, warning := stays u.warning t.warning
            severe := stays u.severe t.severe } ∧ kinds = t.watch.met w) ∧
    (¬ reaches u.severe t.severe → ¬ reaches u.warning t.warning → ¬ reaches u.watch t.watch →
      v = { u with
            watch :=
              if u.current = .watch then leaves u.watch t.watch else counted u.watch t.watch
            warning :=
              if u.current = .warning then leaves u.warning t.warning
              else counted u.warning t.warning
            severe :=
              if u.current = .severe then leaves u.severe t.severe
              else counted u.severe t.severe } ∧
      kinds = { stage := false, rise := false, flow := false })) ∧
  (∀ (s : State) (w : WarnSample), w.quality = .held ∨ w.quality = .missing → s.evaluate w = s)

/-- A change of the current level, and the cadence. At a new cadence slot BEACON follows the pattern
of the current level, and SIREN its siren pattern while the siren sounds (R92 to R94). An evaluation
that leaves the current level does nothing beyond the latches and counters. One that changes it
lowers the acknowledged level to the new one where it stood above, starts slot 0 of the new patterns
at once, puts the grid on the period that storm now asks for, hands a change of lockout to the run
and raises a LEVEL notice with cause EVALUATION, its conditions and the sample's values (R57, R87,
R88, R90, R91). A PUT_SETTING of a threshold that changes the set of enabled levels reconciles the
latches and counters and, where that changes the current level, does the same with cause SETTING
(R89). The change of lockout leaves a run in IDLE, HOME or ABORT_HOME as it is, adds or removes
LOCKOUT in HOLD and HOLD_RETRACT, leads from a working phase to HOLD_RETRACT, its move ended and the
weight raised, and from a HOLD with no other cause back to STARTING (R91, R141, R142, R144). -/
def Obligations.LevelChangeTakesEffect : Prop :=
  (∀ s : State, s.powered = true →
    let slot := (s.warn.slot + 1) % 16
    let sounds : Bool :=
      decide (s.nat .sirenLevel < 3) && decide (s.nat .sirenLevel < s.warn.current.code) &&
        decide (s.warn.ack.code < s.warn.current.code)
    exec .cadenceSlot s = .next
      { s with
        warn := { s.warn with slot := slot, slotAt := s.ticks }
        outs :=
          { s.outs with
            beacon := (s.nat s.warn.current.beacon).testBit slot
            siren :=
              match s.warn.current with
              | .normal => false
              | .watch => sounds && (s.nat .sirenWatch).testBit slot
              | .warning => sounds && (s.nat .sirenWarning).testBit slot
              | .severe => sounds && (s.nat .sirenSevere).testBit slot } }) ∧
  (∀ (s : State) (settings : Settings) (v : WarningUnit) (cause : LevelCause) (met : Kinds)
      (w : Option WarnSample), s.powered = true →
    let old := s.warn.current
    let new := v.current
    let ack := if new.code < s.warn.ack.code then new else s.warn.ack
    let storm : Bool :=
      decide (settings.nat .stormLevel < 3) && decide (settings.nat .stormLevel < new.code)
    let lockout : Bool :=
      decide (settings.nat .lockoutLevel < 3) && decide (settings.nat .lockoutLevel < new.code)
    let sounds : Bool :=
      decide (settings.nat .sirenLevel < 3) && decide (settings.nat .sirenLevel < new.code) &&
        decide (ack.code < new.code)
    let period :=
      if storm then settings.nat .baseInterval / settings.nat .stormDivisor
      else settings.nat .baseInterval
    let changed : State :=
      { s with
        settings := settings
        warn := { v with ack := ack, slot := 0, slotAt := s.ticks }
        samp :=
          if period = s.samp.period then s.samp
          else { s.samp with period := period, next := s.time.nextInstant period }
        outs :=
          { s.outs with
            attn := true, beacon := (settings.nat new.beacon).testBit 0
            siren :=
              match new with
              | .normal => false
              | .watch => sounds && (settings.nat .sirenWatch).testBit 0
              | .warning => sounds && (settings.nat .sirenWarning).testBit 0
              | .severe => sounds && (settings.nat .sirenSevere).testBit 0 }
        link :=
          { s.link with
            queue :=
              enqueue
                (.level
                  { from_ := old, to_ := new, peak := if old.code ≤ new.code then new else old
                    cause := cause, met := met, stage := w.bind (·.value)
                    quality := w.map (·.quality), rate := w.bind (·.rate)
                    flow := w.bind (·.flow), ack := ack, storm := storm, lockout := lockout
                    mono := s.time.mono, calendar := s.time.calendar }) s.link.queue } }
    let before : Bool :=
      decide (settings.nat .lockoutLevel < 3) && decide (settings.nat .lockoutLevel < old.code)
    let held : HoldCauses := { s.run.causes with lockout := lockout }
    let raised (t : State) (phase : Phase) : Prop :=
      t.run.phase = phase ∧ t.run.causes = held ∧
      t.recmem = s.recmem ∧ t.settings = settings ∧ t.warn = changed.warn ∧
      t.samp = changed.samp ∧ t.outs.beacon = changed.outs.beacon ∧
      t.outs.siren = changed.outs.siren ∧ t.outs.reelUp = true ∧
      (∃ m, t.drive.state = .moving m ∧ m.requester = .run ∧ m.axis = .reel) ∧
      ∃ n, Notice.level n ∈ t.link.queue ∧ n.to_ = new ∧ n.cause = cause ∧ n.met = met ∧
        n.storm = storm ∧ n.lockout = lockout
    let takes (t : State) : Prop :=
      (before = lockout ∨ s.run.phase.holdable = false → t = changed) ∧
      (before ≠ lockout →
        (s.run.phase = .holdRetract ∨ s.run.phase = .hold ∧ held ≠ .none →
          t = { changed with run := { s.run with causes := held } }) ∧
        (s.level .driveFault = false → s.level .reelTop = false →
          (lockout = true → s.run.phase.working = true →
            s.drive.state = .idle ∨ s.runMove = true →
            raised t .holdRetract ∧ t.run.exposure = .none) ∧
          (lockout = false → s.run.phase = .hold → held = .none → s.drive.state = .idle →
            raised t .starting ∧ t.run.exposure = s.run.exposure ∧ t.run.holdAt = none ∧
              t.run.current = s.run.current)))
    (∀ sample, w = some sample → settings = s.settings → cause = .evaluation →
      sample.quality ≠ .held → sample.quality ≠ .missing →
      s.warn.evaluate settings sample = (v, met) → v.ack = s.warn.ack →
      (new = old → s.evaluate sample = { s with warn := v }) ∧
      (new ≠ old → takes (s.evaluate sample))) ∧
    (∀ (tag : Byte) (id : BitVec 16) (i : SettingId) (value : Option Int), s.link.reply = none →
      settingOfCode id = some i →
      i ∈ [SettingId.watchStageOn, .watchRiseOn, .watchFlowOn, .warningStageOn, .warningRiseOn,
        .warningFlowOn, .severeStageOn, .severeRiseOn, .severeFlowOn] →
      i.kind.accept value = some (value, false) → settings = s.settings.put i value →
      settings.fits i = true → s.settings.vals.length = 99 → w = none → cause = .setting →
      met = { stage := false, rise := false, flow := false } →
      let top : Nat :=
        if s.warn.severe.latched && settings.severe.enabled then 3
        else if s.warn.warning.latched && settings.warning.enabled then 2
        else if s.warn.watch.latched && settings.watch.enabled then 1
        else 0
      let cell (c : LevelCell) (before now : LevelSettings) (code : Nat) : LevelCell :=
        let reset : Bool := before.enabled != now.enabled
        { latched := now.enabled && (c.latched || decide (code < top))
          entry := if reset then 0 else c.entry
          exit := if reset || decide (top = code ∧ top ≠ old.code) then 0 else c.exit }
      v = { s.warn with
            watch := cell s.warn.watch s.settings.watch settings.watch 1
            warning := cell s.warn.warning s.settings.warning settings.warning 2
            severe := cell s.warn.severe s.settings.severe settings.severe 3 } →
      let answer (t : State) : Host.Outcome State Fault Refusal :=
        .next (t.replied 0x21 tag .ok (.storedSetting value))
      (s.settings.enabledLevels = settings.enabledLevels →
        exec (.putSetting tag id value) s = answer { s with settings := settings }) ∧
      (s.settings.enabledLevels ≠ settings.enabledLevels →
        new.code = top ∧
        (new = old →
          exec (.putSetting tag id value) s =
            answer { s with settings := settings, warn := v }) ∧
        (new ≠ old → ∃ t, exec (.putSetting tag id value) s = answer t ∧ takes t))))

/-! The rating table (chapter 5). -/

/-- The rating table as a host edits it. PUT_RATING_ROW on a staging table of c rows: an index below
c replaces the row, an index equal to c below 24 appends it, any other is INVALID; both values are
clamped, either clamp makes the outcome CLAMPED, and the reply carries the row as stored and the row
count (R73). CLEAR_RATING_STAGING, COMMIT_RATING and the end of the commit: a table of fewer than
two rows or out of order is refused with its fault, a commit during a long operation is BUSY, an
ordered table becomes the commit image; the image becomes the active table with the next generation
at success, and is the stored copy with its generation and its check value, left uninterpreted
(notes/assumptions/35.md); the active table stays at a failure, which leaves the stored copy INVALID
(R74 to R78, R120, R121). -/
def Obligations.RatingTableEditedAndCommitted : Prop :=
  (∀ (tag : Byte) (index : Nat) (stage flow : Int) (s : State), s.ready →
    s.rating.staging.length ≤ 24 →
    let c := s.rating.staging.length
    let row : Row :=
      { stage := max (-2000) (min 32000 stage), flow := max 0 (min 50000000 flow) }
    let code : ReplyCode := if row.stage = stage ∧ row.flow = flow then .ok else .clamped
    (index < c →
      exec (.putRatingRow tag index stage flow) s = .next
        (({ s with
            rating := { s.rating with staging := s.rating.staging.set index row } }).replied
          0x30 tag code (.ratingRow row c))) ∧
    (index = c → c < 24 →
      exec (.putRatingRow tag index stage flow) s = .next
        (({ s with
            rating := { s.rating with staging := s.rating.staging ++ [row] } }).replied
          0x30 tag code (.ratingRow row (c + 1)))) ∧
    (c < index ∨ 24 ≤ index →
      exec (.putRatingRow tag index stage flow) s =
        .next (s.replied 0x30 tag .invalid .nothing))) ∧
  ∀ (tag : Byte) (s : State),
    let rows := s.rating.staging
    let ordered : Prop :=
      2 ≤ rows.length ∧ rows.Pairwise fun a b => a.stage < b.stage ∧ a.flow ≤ b.flow
    let after := if s.rating.generation = 65535 then 0 else s.rating.generation + 1
    (s.ready →
      exec (.clearRatingStaging tag) s = .next
        (({ s with rating := { s.rating with staging := [] } }).replied 0x31 tag .ok
          (.ratingCount 0)) ∧
      (rows.length < 2 →
        exec (.commitRating tag) s =
          .next (s.replied 0x33 tag .invalid (.commitFault .tooFew rows.length))) ∧
      (∀ i a b, rows[i]? = some a → rows[i + 1]? = some b →
        ((rows.take (i + 1)).Pairwise fun a b => a.stage < b.stage ∧ a.flow ≤ b.flow) →
        (b.stage ≤ a.stage →
          exec (.commitRating tag) s = .next
            (s.replied 0x33 tag .invalid (.commitFault (.stageOrder (i + 1)) rows.length))) ∧
        (a.stage < b.stage → b.flow < a.flow →
          exec (.commitRating tag) s = .next
            (s.replied 0x33 tag .invalid (.commitFault (.dischargeOrder (i + 1)) rows.length)))) ∧
      (∀ op, ordered → s.flash.op = some op →
        exec (.commitRating tag) s = .next (s.replied 0x33 tag .busy (.busyClass op.cls))) ∧
      (ordered → s.flash.op = none →
        exec (.commitRating tag) s = .next
          (({ s with
              rating := { s.rating with image := some rows, stored := none }
              flash :=
                { s.flash with
                  op := some { cls := .rating, slot := none, mono := s.time.mono } } }).replied
            0x33 tag .accepted (.commit rows.length after)))) ∧
    (∀ op image, s.powered = true → s.flash.op = some op → op.cls = .rating →
      s.rating.image = some image →
      let notice (o : FlashOutcome) (g : Nat) : Notice := .longOp
        { cls := .rating, outcome := o, slot := none, name := none, count := none, fault := none,
          entry := none, generation := some g, rows := some image.length, mono := s.time.mono }
      exec (.ratingCommitComplete true) s = .next
        { s with
          rating :=
            { s.rating with
              active := image, generation := after, image := none
              stored :=
                some
                  { rows := image, generation := after
                    check := Config.ratingCheckValue (ratingNumbers image after) } }
          flash := { s.flash with op := none, lastRating := some .ok }
          outs := { s.outs with attn := true }
          link := { s.link with queue := enqueue (notice .ok after) s.link.queue } } ∧
      exec (.ratingCommitComplete false) s = .next
        { s with
          rating := { s.rating with stored := none, image := none }
          flash := { s.flash with op := none, lastRating := some .flashError }
          outs := { s.outs with attn := true }
          link :=
            { s.link with
              queue := enqueue (notice .flashError s.rating.generation) s.link.queue } })

/-- A lookup in an ordered table: at a row it gives the row's discharge without flag, between two
rows the straight line through them, rounded once; below the first row 0 with BELOW, above the last
row the last segment extended, clamped to 50 000 000, with ABOVE; the discharge never falls as the
stage rises, and stays in 0..50 000 000; an empty table gives none (R70 to R72). -/
def Obligations.LookupFollowsTable : Prop :=
  ∀ u : RatingUnit,
    (u.active = [] → ∀ h, u.lookup h = { flow := none, flag := .none, generation := none }) ∧
    (tableOrdered u.active →
      (∀ r ∈ u.active,
        u.lookup r.stage = { flow := some r.flow, flag := .none, generation := some u.generation }) ∧
      (∀ h r, u.active.head? = some r → h < r.stage →
        u.lookup h = { flow := some 0, flag := .below, generation := some u.generation }) ∧
      (∀ (k : Nat) (a b : Row) (h : Int), u.active[k]? = some a → u.active[k + 1]? = some b →
        let line :=
          a.flow + roundDiv ((b.flow - a.flow) * (h - a.stage)) (b.stage - a.stage)
        (a.stage < h → h < b.stage →
          u.lookup h = { flow := some line, flag := .none, generation := some u.generation } ∧
          a.flow ≤ line ∧ line ≤ b.flow) ∧
        (k + 2 = u.active.length → b.stage < h →
          u.lookup h =
            { flow := some (min 50000000 line), flag := .above
              generation := some u.generation })) ∧
      (∀ h, ∃ q, (u.lookup h).flow = some q ∧ 0 ≤ q ∧ q ≤ 50000000) ∧
      (∀ h k q p, h ≤ k → (u.lookup h).flow = some q → (u.lookup k).flow = some p → q ≤ p))

/-! Sampling and stage (chapters 3 and 4). -/

/-- A grid instant in IDLE records its times and period, takes the shaft capture and requests the
measurement; with the multiplier UNLOCKED the sample is formed at the instant itself; in FORMING the
instant is passed over; the next instant is the smallest multiple of the period after the grid time
(R27, R43, R58, R59, R62, R63). That GRID_INSTANT makes the check of a second event, and leaves the
state as it is at any other grid time, is the model's reading (notes/assumptions/4.md). -/
def Obligations.GridInstantStartsSample : Prop :=
  (∀ (t : Timebase) (p : Nat), 0 < p → t.gridTime + p ≤ 4294967295 →
    ∃ m, t.nextInstant p = some m ∧ m % p = 0 ∧ t.gridTime < m ∧ m ≤ t.gridTime + p) ∧
  ∀ s : State, s.powered = true →
    let next := s.time.nextInstant s.samp.period
    let forming : Forming :=
      { mono := s.time.mono, calendar := s.time.calendar, period := s.samp.period
        capture :=
          { count := s.float.count, tally := s.float.tally, saturated := s.float.saturated,
            slip := s.index.slip, setAside := false } }
    (s.samp.next ≠ some s.time.gridTime → exec .gridInstant s = .next s) ∧
    (∀ f, s.samp.next = some s.time.gridTime → s.samp.forming = some f →
      exec .gridInstant s = .next { s with samp := { s.samp with next := next } }) ∧
    (s.samp.next = some s.time.gridTime → s.samp.forming = none → s.lock = .locked →
      exec .gridInstant s = .next
        { s with
          float := { s.float with tally := 0, saturated := false }
          index := { s.index with slip := false }
          samp := { s.samp with forming := some forming, next := next }
          press := .waiting (s.nat .pressureCycles) s.ticks }) ∧
    (∀ since, s.samp.next = some s.time.gridTime → s.samp.forming = none →
      s.lock = .unlocked since → s.recmem.next ≤ 4294967295 →
      ∃ t r, exec .gridInstant s = .next t ∧ t.samp.forming = none ∧
        (t.samp.period = s.samp.period → t.samp.next = next) ∧
        t.recmem.recs.getLast? = some r ∧ r.seq = s.recmem.next ∧ r.mono = s.time.mono ∧
        r.press = none)

/-- SET_REFERENCE on either channel makes the stage computed from the present reading exactly the
clamped staff reading, clears the disagreement, and leaves the reported stage; PRESSURE without a
completed measurement, or with its frequency outside the limits, is refused NO_VALUE (R41, R42,
R51). -/
def Obligations.ReferenceMakesStageExact : Prop :=
  ∀ (tag : Byte) (staff : Int) (s : State), s.ready →
    let v := max (-2000) (min 32000 staff)
    let code : ReplyCode := if v = staff then .ok else .clamped
    (∃ t : State, exec (.setReferenceShaft tag staff) s = .next
        (t.replied 0x28 tag code (.reference
          { staff := v, previous := s.stage.shaftOffset, offset := t.stage.shaftOffset,
            age := none, state := .inl .healthy })) ∧
      t.stage.shaft = .healthy ∧ t.liveShaft = some v ∧
      t.float = { s.float with tally := 0, saturated := false } ∧
      t.index = { s.index with phase := none } ∧ t.stage.disagree = false ∧
      t.stage.disagreeCount = 0 ∧ t.stage.reported = s.stage.reported ∧
      t.stage.pressOffset = s.stage.pressOffset ∧ t.recmem = s.recmem ∧ t.run = s.run) ∧
    (∀ m, s.stage.meas = some m → s.num .pressureFMin ≤ m.freq → m.freq ≤ s.num .pressureFMax →
      ∃ t : State, exec (.setReferencePressure tag staff) s = .next
          (t.replied 0x28 tag code (.reference
            { staff := v, previous := s.stage.pressOffset, offset := t.stage.pressOffset,
              age := some (s.time.mono - m.mono), state := .inr s.stage.press })) ∧
        t.livePress = some (v, s.time.mono - m.mono) ∧ t.stage.press = s.stage.press ∧
        t.stage.disagree = false ∧ t.stage.disagreeCount = 0 ∧
        t.stage.reported = s.stage.reported ∧ t.stage.shaftOffset = s.stage.shaftOffset ∧
        t.float = s.float ∧ t.recmem = s.recmem ∧ t.run = s.run) ∧
    (s.stage.meas = none ∨
        (∃ m, s.stage.meas = some m ∧
          (m.freq < s.num .pressureFMin ∨ s.num .pressureFMax < m.freq)) →
      exec (.setReferencePressure tag staff) s = .next (s.replied 0x28 tag .noValue .nothing))

/-! Plans (chapter 8). -/

/-- The requests that edit and judge the plan buffer: header and entries are stored with their
numbers clamped and make the buffer UNVALIDATED, a bad name, code or index is INVALID, a load in
flight makes them BUSY; VALIDATE_PLAN passes exactly the plans with entries 1 to n present, EDGE
first and last, METERED between, x ascending and metered neighbours more than twice the tolerance
apart (R114 to R118). That BUSY names the class in flight is notes/assumptions/30.md, and that the
entry as stored is told with its index notes/assumptions/37.md. -/
def Obligations.PlanBufferEditedAndJudged : Prop :=
  (∀ (tag : Byte) (name : List Byte) (count method : Nat) (s : State), s.ready →
    let fits : Prop := name.length ≤ 12 ∧ ∀ b ∈ name, 0x20 ≤ b ∧ b ≤ 0x7E
    (¬ fits ∨ 5 ≤ method →
      exec (.putPlanHeader tag name count method) s =
        .next (s.replied 0x50 tag .invalid .nothing)) ∧
    (fits → method < 5 → s.isLoading = true →
      exec (.putPlanHeader tag name count method) s =
        .next (s.replied 0x50 tag .busy (.busyClass .planLoad))) ∧
    (∀ m, fits → method < 5 → EntryMethod.ofCode method = some m → s.isLoading = false →
      let h : PlanHeader := { name := name, count := max 3 (min 32 count), method := m }
      exec (.putPlanHeader tag name count method) s = .next
        (({ s with
            plan :=
              { s.plan with header := some h, buffer := .unvalidated, lastFault := none } }).replied
          0x50 tag (if h.count = count then .ok else .clamped) (.planHeader h .unvalidated)))) ∧
  (∀ (tag : Byte) (index : Nat) (x d c t r : Int) (method : Nat) (s : State), s.ready →
    let x' := max (-1000000) (min 1000000 x)
    let d' := max 0 (min 5000 d)
    let c' := max 0 (min 1000 c)
    let t' := max 20 (min 300 t)
    let r' := max 1 (min 4 r)
    let stored (e : PlanEntry) : State :=
      { s with
        plan :=
          { s.plan with
            entries := s.plan.entries.set (index - 1) (some e), buffer := .unvalidated
            lastFault := none } }
    (index < 1 ∨ 32 < index →
      exec (.putVertical tag index (.edge x d c)) s =
        .next (s.replied 0x51 tag .invalid .nothing) ∧
      exec (.putVertical tag index (.metered x method t r)) s =
        .next (s.replied 0x51 tag .invalid .nothing)) ∧
    (6 ≤ method →
      exec (.putVertical tag index (.metered x method t r)) s =
        .next (s.replied 0x51 tag .invalid .nothing)) ∧
    (1 ≤ index → index ≤ 32 → s.isLoading = true → method < 6 →
      exec (.putVertical tag index (.edge x d c)) s =
        .next (s.replied 0x51 tag .busy (.busyClass .planLoad)) ∧
      exec (.putVertical tag index (.metered x method t r)) s =
        .next (s.replied 0x51 tag .busy (.busyClass .planLoad))) ∧
    (1 ≤ index → index ≤ 32 → s.isLoading = false →
      exec (.putVertical tag index (.edge x d c)) s = .next
        ((stored (.edge x' d' c')).replied 0x51 tag
          (if x' = x ∧ d' = d ∧ c' = c then .ok else .clamped)
          (.planEntry index (.edge x' d' c') .unvalidated)) ∧
      ∀ m, EntryMethod.ofCode method = some m →
        exec (.putVertical tag index (.metered x method t r)) s = .next
          ((stored (.metered x' m t'.toNat r'.toNat)).replied 0x51 tag
            (if x' = x ∧ t' = t ∧ r' = r then .ok else .clamped)
            (.planEntry index (.metered x' m t'.toNat r'.toNat) .unvalidated)))) ∧
  (∀ (tag : Byte) (s : State), s.ready →
    let judged := planFault (s.num .positionTolerance) s.plan.header s.plan.entries
    (s.isLoading = true →
      exec (.validatePlan tag) s = .next (s.replied 0x52 tag .busy (.busyClass .planLoad))) ∧
    (∀ h, s.isLoading = false → s.plan.header = some h → judged = none →
      exec (.validatePlan tag) s = .next
        (({ s with plan := { s.plan with buffer := .valid, lastFault := none } }).replied
          0x52 tag .ok (.validated h.count))) ∧
    (∀ fault entry, s.isLoading = false → judged = some (fault, entry) →
      exec (.validatePlan tag) s = .next
        (({ s with
            plan :=
              { s.plan with buffer := .unvalidated, lastFault := some (fault, entry) } }).replied
          0x52 tag .invalid (.planFault fault entry)))) ∧
  (∀ (tolerance : Int) (h : PlanHeader) (entries : List (Option PlanEntry)), 2 ≤ h.count →
    0 ≤ tolerance →
    (planFault tolerance (some h) entries = none ↔
      ∃ plan : List PlanEntry, plan.length = h.count ∧
        (∀ i, i < h.count → (entries[i]?).join = plan[i]?) ∧
        (∀ i e, plan[i]? = some e →
          (e.isMetered = true ↔ i ≠ 0 ∧ i + 1 ≠ h.count)) ∧
        (∀ i a b, plan[i]? = some a → plan[i + 1]? = some b → a.x < b.x ∧
          (a.isMetered = true → b.isMetered = true → 2 * tolerance < b.x - a.x))))

/-- The plan slots: STORE_PLAN takes the image and leaves the slot EMPTY until the store ends,
LOAD_PLAN reads its slot and supersedes a load in flight, and the ends of both: a store programs the
image with its check value, a load passes a slot on only where the check value matches; a slot
outside 1..6 is INVALID, a store of a buffer that is not VALID is refused, another class in flight
makes them BUSY (R120 to R125). That the LONG_OP notices SUPERSEDED, NOT_FOUND and FLASH_ERROR of a
load carry neither name nor vertical count is the model's reading (notes/assumptions/27.md); the
check value is left uninterpreted (notes/assumptions/35.md). -/
def Obligations.PlanSlotsStoredAndLoaded : Prop :=
  ∀ (tag : Byte) (slot : Nat) (s : State),
    let note (cls : FlashClass) (o : FlashOutcome) (sl : Option Nat) : LongOpNotice :=
      { cls := cls, outcome := o, slot := sl, name := none, count := none, fault := none,
        entry := none, generation := none, rows := none, mono := s.time.mono }
    let raised (t : State) (n : LongOpNotice) : State :=
      { t with
        outs := { s.outs with attn := true }
        link := { s.link with queue := enqueue (.longOp n) s.link.queue } }
    (s.ready →
      (slot < 1 ∨ 6 < slot →
        exec (.storePlan tag slot) s = .next (s.replied 0x54 tag .invalid .nothing) ∧
        exec (.loadPlan tag slot) s = .next (s.replied 0x55 tag .invalid .nothing)) ∧
      (1 ≤ slot → slot ≤ 6 →
        (s.plan.buffer ≠ .valid →
          exec (.storePlan tag slot) s = .next (s.replied 0x54 tag .invalid .bufferNotValid)) ∧
        (∀ op, s.flash.op = some op →
          (s.plan.buffer = .valid →
            exec (.storePlan tag slot) s =
              .next (s.replied 0x54 tag .busy (.busyClass op.cls))) ∧
          (op.cls ≠ .planLoad →
            exec (.loadPlan tag slot) s =
              .next (s.replied 0x55 tag .busy (.busyClass op.cls))) ∧
          (op.cls = .planLoad →
            exec (.loadPlan tag slot) s = .next
              ((raised
                { s with
                  plan := { s.plan with loadImage := (s.plan.slots[slot - 1]?).join }
                  flash :=
                    { s.flash with
                      op := some { cls := .planLoad, slot := some slot, mono := s.time.mono }
                      lastPlanLoad := some .superseded } }
                (note .planLoad .superseded op.slot)).replied
                  0x55 tag .accepted (.superseded op.slot)))) ∧
        (s.flash.op = none →
          (∀ h, s.plan.buffer = .valid → s.plan.header = some h →
            exec (.storePlan tag slot) s = .next
              (({ s with
                  plan :=
                    { s.plan with
                      slots := s.plan.slots.set (slot - 1) none
                      storeImage :=
                        some
                          { header := h
                            entries := (firstEntries h.count s.plan.entries).filterMap fun e => e } }
                  flash :=
                    { s.flash with
                      op :=
                        some
                          { cls := .planStore, slot := some slot, mono := s.time.mono } } }).replied
                0x54 tag .accepted .nothing)) ∧
          exec (.loadPlan tag slot) s = .next
            (({ s with
                plan := { s.plan with loadImage := (s.plan.slots[slot - 1]?).join }
                flash :=
                  { s.flash with
                    op :=
                      some { cls := .planLoad, slot := some slot, mono := s.time.mono } } }).replied
              0x55 tag .accepted (.superseded none))))) ∧
    (s.powered = true → ∀ m image,
      (s.flash.op = some { cls := .planStore, slot := some slot, mono := m } →
        s.plan.storeImage = some image →
        let n (o : FlashOutcome) : LongOpNotice :=
          { note .planStore o (some slot) with
            name := some image.header.name, count := some image.header.count }
        let done (o : FlashOutcome) (p : Option PlanSlot) : State :=
          raised
            { s with
              plan :=
                { s.plan with slots := s.plan.slots.set (slot - 1) p, storeImage := none }
              flash := { s.flash with op := none, lastPlanStore := some o } } (n o)
        exec (.planStoreComplete true) s =
          .next (done .ok (some { plan := image, check := Config.checkValue image.numbers })) ∧
        exec (.planStoreComplete false) s = .next (done .flashError none)) ∧
      (s.flash.op = some { cls := .planLoad, slot := some slot, mono := m } →
        let ended (o : FlashOutcome) (plan : PlanStore) (n : LongOpNotice) : State :=
          raised { s with plan := plan, flash := { s.flash with op := none, lastPlanLoad := some o } }
            n
        (s.plan.loadImage = none → ∀ ok,
          exec (.planLoadComplete ok) s =
            .next (ended .notFound s.plan (note .planLoad .notFound (some slot)))) ∧
        (∀ check, s.plan.loadImage = some { plan := image, check := check } →
          let failed : State :=
            ended .flashError
              { s.plan with loadImage := none, slots := s.plan.slots.set (slot - 1) none }
              (note .planLoad .flashError (some slot))
          exec (.planLoadComplete false) s = .next failed ∧
          (check ≠ Config.checkValue image.numbers →
            exec (.planLoadComplete true) s = .next failed) ∧
          (check = Config.checkValue image.numbers →
            (planFault (s.num .positionTolerance) (some image.header) image.buffer = none →
              exec (.planLoadComplete true) s = .next
                (ended .ok
                  { s.plan with
                    loadImage := none, header := some image.header, entries := image.buffer,
                    buffer := .valid, lastFault := none }
                  { note .planLoad .ok (some slot) with
                    name := some image.header.name, count := some image.header.count })) ∧
            (∀ fault entry,
              planFault (s.num .positionTolerance) (some image.header) image.buffer =
                some (fault, entry) →
              exec (.planLoadComplete true) s = .next
                (ended .invalid
                  { s.plan with
                    loadImage := none, header := some image.header, entries := image.buffer,
                    buffer := .unvalidated, lastFault := some (fault, entry) }
                  { note .planLoad .invalid (some slot) with
                    name := some image.header.name, count := some image.header.count,
                    fault := some fault, entry := entry }))))))

/-! Settings and identity (R188 to R191). -/

/-- PUT_SETTING: an identifier outside the list is NOT_FOUND; an absent value for a setting that is
no threshold, a value outside its list, or a failed structural check is INVALID with nothing
changed; otherwise the value, clamped into its range, stands in the working copy and in the reply,
and the stored copy stays (R3, R40, R188, R189; for a pattern of more than 16 bits
notes/assumptions/23.md). -/
def Obligations.SettingWrittenAsAdmitted : Prop :=
  ∀ (tag : Byte) (id : BitVec 16) (v : Option Int) (s : State), s.ready →
    (settingOfCode id = none →
      exec (.putSetting tag id v) s = .next (s.replied 0x21 tag .notFound .nothing)) ∧
    (∀ i, settingOfCode id = some i →
      let wrong : Prop :=
        match i.kind, v with
        | .threshold _ _, _ => False
        | _, none => True
        | .num _ _, some _ => False
        | .oneOf l, some x => x ∉ l
        | .choice n, some x => x < 0 ∨ (n : Int) ≤ x
        | .pattern, some x => x < 0 ∨ 65536 ≤ x
      let stored : Option Int :=
        match i.kind, v with
        | .num lo hi, some x => some (max lo (min hi x))
        | .threshold lo hi, some x => some (max lo (min hi x))
        | _, x => x
      (wrong ∨ (s.settings.put i stored).fits i = false →
        exec (.putSetting tag id v) s = .next (s.replied 0x21 tag .invalid .nothing)) ∧
      (¬ wrong → (s.settings.put i stored).fits i = true → s.settings.vals.length = 99 →
        ∃ t : State, exec (.putSetting tag id v) s = .next
            (t.replied 0x21 tag (if stored = v then .ok else .clamped) (.storedSetting stored)) ∧
          t.settings = s.settings.put i stored ∧ t.settings.get i = stored ∧
          (∀ j, j ≠ i → t.settings.get j = s.settings.get j) ∧
          (i = .pressureOffset → t.stage.pressOffset = stored.getD 0) ∧
          (i ≠ .pressureOffset → t.stage.pressOffset = s.stage.pressOffset) ∧
          t.stored = s.stored ∧ t.flash = s.flash ∧ t.identity = s.identity ∧
          t.time = s.time ∧ t.rating = s.rating ∧ t.history = s.history ∧
          t.recmem.recs = s.recmem.recs))

/-- What an accepted PUT_SETTING does at once. A changed multiplier or direction is in use at once
and empties the remembered direction; of FLOAT it drops the index phase and leaves the shaft
UNREFERENCED, of an axis it makes the axis UNREFERENCED (R23, R24, R36, R101). So do the other
settings that give a count its meaning; an axis setting stored again changes nothing, and a JOG in
flight on the axis is stopped with reason SETTING. A debounce time is measured anew against the
interval in progress (R29). base_interval, storm_divisor and storm_level put the grid on the period
they ask for (R57, R90). lockout_level hands a change of lockout to the run: a working phase is left
for HOLD_RETRACT with LOCKOUT, and a HOLD with no other cause resumes (R91, R142, R144). siren_level
silences the siren (R94). A changed position_tolerance makes a VALID buffer UNVALIDATED (R117). -/
def Obligations.SettingTakesEffectAtOnce : Prop :=
  ∀ (tag : Byte) (id : BitVec 16) (i : SettingId) (x : Int) (s : State), s.ready →
    settingOfCode id = some i → i.kind.accept (some x) = some (some x, false) →
    (s.settings.put i (some x)).fits i = true → s.settings.vals.length = 99 →
    let settings := s.settings.put i (some x)
    let u : State := { s with settings := settings }
    let answer (t : State) : Prop :=
      exec (.putSetting tag id (some x)) s =
        .next (t.replied 0x21 tag .ok (.storedSetting (some x)))
    let notMoving (ax : Axis) : Prop := ∀ m, s.drive.state.move? = some m → m.axis ≠ ax
    let loose (ax : Axis) (t : State) : State :=
      match ax with
      | .travel => { t with drive := { t.drive with travelRef := false } }
      | .reel => { t with drive := { t.drive with reelRef := false } }
    let stoppedJog (ax : Axis) : Prop :=
      ∀ m, s.drive.state.move? = some m → m.axis = ax → m.requester = .host →
        ∃ (t : State) (n : MotionNotice), answer t ∧ t.referenced ax = false ∧
          t.drive.state = .idle ∧ t.outs.driveStill ∧ t.run = s.run ∧
          t.link.queue = enqueue (.motion n) s.link.queue ∧ n.event = .stopped .setting ∧
          n.axis = some ax
    let unreferenced (t : State) : Prop :=
      ∃ q : State, answer q ∧
        q = { t with
              stage := { t.stage with shaft := .unreferenced }, link := q.link, outs := q.outs } ∧
        (s.stage.shaft = .unreferenced → q.link = s.link ∧ q.outs = s.outs) ∧
        (s.stage.shaft ≠ .unreferenced → ∃ n, Notice.sensor n ∈ q.link.queue ∧
          n.changed.shaft = true ∧ n.shaft = .unreferenced)
    (∀ ch mult reversed, (i = multSetting ch ∧ mult = x.toNat ∧ reversed = (s.quad ch).reversed) ∨
        (i = dirSetting ch ∧ mult = (s.quad ch).mult ∧ reversed = decide (x.toNat = 1)) →
      (s.quad ch).mult = s.nat (multSetting ch) →
      (s.quad ch).reversed = decide (s.nat (dirSetting ch) = 1) →
      let q : Quad := { s.quad ch with mult := mult, reversed := reversed, dir := none }
      let same : Prop := mult = (s.quad ch).mult ∧ reversed = (s.quad ch).reversed
      (same → answer u) ∧
      (¬ same →
        (ch = .float →
          unreferenced { u with float := q, index := { s.index with phase := none } }) ∧
        (∀ ax, ch = ax.chan →
          (notMoving ax → answer (loose ax (u.setQuad ch q))) ∧ stoppedJog ax))) ∧
    (i = .floatIndexMode →
      answer (if x = 0 then { u with index := { s.index with phase := none } } else u)) ∧
    (i = .floatLines →
      let t : State :=
        { u with
          stage := { s.stage with linesCopy := x, circCopy := u.num .floatCircumference } }
      (s.settings.get i = some x → answer t) ∧
      (s.settings.get i ≠ some x → unreferenced { t with index := { s.index with phase := none } })) ∧
    (i = .floatCircumference →
      let t : State :=
        { u with stage := { s.stage with linesCopy := u.num .floatLines, circCopy := x } }
      (s.settings.get i = some x → answer t) ∧ (s.settings.get i ≠ some x → unreferenced t)) ∧
    (∀ ax : Axis, i = ax.circ ∨ i = ax.lines →
      (s.settings.get i = some x → answer u) ∧
      (s.settings.get i ≠ some x →
        (notMoving ax → answer (loose ax u)) ∧ stoppedJog ax)) ∧
    (∀ c : Contact, i = debounceSetting c →
      (∀ k, (s.contacts.get c).since = some k →
        (s.ticks < k + msTicks x.toNat → answer u) ∧
        (k + msTicks x.toNat ≤ s.ticks → s.drive.state = .idle → s.run.phase = .idle →
          (s.contacts.get c).armed = false → c ≠ .driveFault →
          answer
            { u with
              contacts :=
                s.contacts.set c
                  { s.contacts.get c with
                    level := (s.contacts.get c).raw, since := none } })) ∧
      ((s.contacts.get c).since = none → answer u)) ∧
    (i = .baseInterval ∨ i = .stormDivisor ∨ i = .stormLevel →
      let period :=
        if u.storm then u.nat .baseInterval / u.nat .stormDivisor else u.nat .baseInterval
      (period = s.samp.period → answer u) ∧
      (period ≠ s.samp.period →
        answer
          { u with
            samp := { s.samp with period := period, next := s.time.nextInstant period } })) ∧
    (i = .lockoutLevel →
      let now : Bool := decide (x < 3) && decide (x < s.warn.current.code)
      u.lockout = now ∧
      (s.lockout = now ∨ s.run.phase.holdable = false → answer u) ∧
      (s.lockout = false → now = true →
        let held : HoldCauses := { s.run.causes with lockout := true }
        (s.run.phase = .hold ∨ s.run.phase = .holdRetract →
          answer { u with run := { s.run with causes := held } }) ∧
        (s.run.phase.working = true → s.drive.state = .idle ∨ s.runMove = true →
          s.level .driveFault = false → s.level .reelTop = false →
          ∃ (t : State) (m : Move), answer t ∧ t.run.phase = .holdRetract ∧
            t.run.causes = held ∧ t.run.exposure = .none ∧ t.recmem = s.recmem ∧
            t.drive.state = .moving m ∧ m.requester = .run ∧ m.axis = .reel ∧
            t.outs.reelUp = true)) ∧
      (s.lockout = true → now = false →
        let held : HoldCauses := { s.run.causes with lockout := false }
        (s.run.phase = .holdRetract ∨ s.run.phase = .hold ∧ held ≠ .none →
          answer { u with run := { s.run with causes := held } }) ∧
        (s.run.phase = .hold → held = .none → s.drive.state = .idle →
          s.level .driveFault = false → s.level .reelTop = false →
          ∃ (t : State) (m : Move), answer t ∧ t.run.phase = .starting ∧
            t.run.causes = .none ∧ t.run.holdAt = none ∧
            t.run.current = s.run.current ∧ t.drive.state = .moving m ∧
            m.requester = .run ∧ m.axis = .reel ∧ t.outs.reelUp = true))) ∧
    (i = .sirenLevel →
      (u.sounding = true → answer u) ∧
      (u.sounding = false → answer { u with outs := { s.outs with siren := false } })) ∧
    (i = .positionTolerance →
      (s.settings.get i = some x ∨ s.plan.buffer ≠ .valid → answer u) ∧
      (s.settings.get i ≠ some x → s.plan.buffer = .valid →
        answer { u with plan := { s.plan with buffer := .unvalidated } }))

/-- What is stored for good. STORE_SETTINGS and the end of the store: at acceptance the stored copy
is INVALID and the image is the working copy with O_p as pressure_offset; a good read-back makes the
image the stored copy, with its check value, left uninterpreted (notes/assumptions/35.md), a failure
leaves it INVALID, and both raise a LONG_OP notice (R40, R120, R121, R190). SET_IDENTITY, line by
line of its table; an identity once set is kept by every step, resets among them (R191). -/
def Obligations.SettingsAndIdentityStored : Prop :=
  (∀ (tag : Byte) (s : State),
    (s.ready →
      (∀ op, s.flash.op = some op →
        exec (.storeSettings tag) s = .next (s.replied 0x22 tag .busy (.busyClass op.cls))) ∧
      (s.flash.op = none →
        exec (.storeSettings tag) s = .next
          (({ s with
              stored := none
              flash :=
                { s.flash with
                  op := some { cls := .settings, slot := none, mono := s.time.mono }
                  settingsImage :=
                    some (s.settings.put .pressureOffset (some s.stage.pressOffset)) } }).replied
            0x22 tag .accepted .nothing))) ∧
    (∀ op ok, s.powered = true → s.flash.op = some op → op.cls = .settings →
      let outcome : FlashOutcome := if ok then .ok else .flashError
      exec (.settingsStoreComplete ok) s = .next
        { s with
          stored :=
            if ok then
              s.flash.settingsImage.map fun image =>
                { settings := image, check := Config.settingsCheckValue image.numbers }
            else none
          flash :=
            { s.flash with op := none, settingsImage := none, lastSettings := some outcome }
          outs := { s.outs with attn := true }
          link :=
            { s.link with
              queue :=
                enqueue
                  (.longOp
                    { cls := .settings, outcome := outcome, slot := none, name := none,
                      count := none, fault := none, entry := none, generation := none,
                      rows := none, mono := s.time.mono }) s.link.queue } })) ∧
  (∀ (tag : Byte) (n : BitVec 16) (ok : Bool) (s : State), s.ready →
    (n = 0 → exec (.setIdentity tag n ok) s = .next (s.replied 0x7E tag .invalid .nothing)) ∧
    (n ≠ 0 → s.identity.isSome →
      exec (.setIdentity tag n ok) s = .next (s.replied 0x7E tag .alreadySet .nothing)) ∧
    (n ≠ 0 → s.identity = none →
      exec (.setIdentity tag n true) s =
        .next (({ s with identity := some n.toNat }).replied 0x7E tag .ok .nothing) ∧
      exec (.setIdentity tag n false) s =
        .next (s.replied 0x7E tag .state .writeFailed))) ∧
  ∀ s t : State, s.identity.isSome → step s = .next t → t.identity = s.identity

/-! The archive and the results (chapter 11). -/

/-- An interval record takes the next sequence number and is the newest. A region of 8 000 records
gives up its oldest; the cursor, when it stood there, moves to the oldest left, the overrun flag is
set and an ARCHIVE notice tells of the record skipped. Where the next number has passed its limit,
the region is emptied, the record takes number 0, the cursor goes to END, reported as next, and the
notice says RENUMBERED (R169, R170, R175, R179). A sample formed writes one record in this way
(R64). That next stands at 4 294 967 296 until the record that renumbers is written, and that a
RENUMBERED notice counts one record skipped where the cursor named one, is the model's reading
(notes/assumptions/19.md and 27.md). -/
def Obligations.IntervalRecordsKeptInOrder : Prop :=
  (∀ (s : State) (rec_ : IntervalRecord), s.powered = true → s.recmem.sound →
    let r := s.recmem
    let low := r.next - r.recs.length
    let noticed (t : RecordMemory) (n : ArchiveNotice) : State :=
      { s with
        recmem := t, outs := { s.outs with attn := true }
        link := { s.link with queue := enqueue (.archive n) s.link.queue } }
    (r.next ≤ 4294967295 →
      let added (old : List IntervalRecord) : RecordMemory :=
        { r with recs := old ++ [{ rec_ with seq := r.next }], next := r.next + 1 }
      (r.recs.length < 8000 → s.writeInterval rec_ = { s with recmem := added r.recs }) ∧
      (r.recs.length = 8000 →
        (r.cursor ≠ some low →
          s.writeInterval rec_ = { s with recmem := added (r.recs.drop 1) }) ∧
        (r.cursor = some low →
          s.writeInterval rec_ =
            noticed
              { added (r.recs.drop 1) with cursor := some (low + 1), overrun := true }
              { renumbered := false, skipped := 1, cursor := low + 1, oldest := some (low + 1)
                newest := some r.next, mono := s.time.mono }))) ∧
    (4294967295 < r.next →
      s.writeInterval rec_ =
        noticed
          { r with
            recs := [{ rec_ with seq := 0 }], next := 1, cursor := none
            overrun := r.overrun || r.cursor.isSome }
          { renumbered := true, skipped := if r.cursor.isSome then 1 else 0, cursor := 1
            oldest := some 0, newest := some 0, mono := s.time.mono })) ∧
  ∀ (s : State) (f : Forming), s.powered = true → s.press ≠ .idle → s.samp.forming = some f →
    ∃ (t : State) (rec_ : IntervalRecord), exec .pressureTimeout s = .next t ∧
      rec_.mono = f.mono ∧
      t.recmem.recs = (s.writeInterval rec_).recmem.recs ∧
      t.recmem.next = (s.writeInterval rec_).recmem.next ∧
      t.recmem.cursor = (s.writeInterval rec_).recmem.cursor ∧
      t.recmem.overrun = (s.writeInterval rec_).recmem.overrun

/-- ARCHIVE_SEEK, line by line of its table; the reply carries the place after it and the overrun
flag, which it leaves. A frame of its kind whose payload is none of the four positions is answered
INVALID, with the cursor unchanged and the place in the reply (R175, R176, R184; that the fields go
with this INVALID: notes/assumptions/30.md). -/
def Obligations.ArchiveCursorSeeks : Prop :=
  ∀ (tag : Byte) (n : BitVec 32) (s : State), s.ready → s.recmem.sound →
    let r := s.recmem
    let low := r.next - r.recs.length
    let edge (k : Nat) : Option Nat := if r.recs = [] then none else some k
    let sought (c : Option Nat) (code : ReplyCode) : State :=
      ({ s with recmem := { r with cursor := c } }).replied 0x70 tag code
        (.seek { cursor := c, oldest := edge low, newest := edge (r.next - 1), next := r.next }
          r.overrun)
    let qualifies (rec_ : IntervalRecord) : Prop := ∃ c, rec_.calendar = some c ∧ n.toNat ≤ c
    exec (.archiveSeekOldest tag) s = .next (sought (edge low) .ok) ∧
    exec (.archiveSeekNewest tag) s = .next (sought (edge (r.next - 1)) .ok) ∧
    (low ≤ n.toNat → n.toNat < r.next →
      exec (.archiveSeekSeq tag n) s = .next (sought (some n.toNat) .ok)) ∧
    (n.toNat = r.next → exec (.archiveSeekSeq tag n) s = .next (sought none .ok)) ∧
    (r.recs ≠ [] → n.toNat < low →
      exec (.archiveSeekSeq tag n) s = .next (sought (some low) .clamped)) ∧
    (r.next < n.toNat ∨ r.recs = [] ∧ n.toNat ≠ r.next →
      exec (.archiveSeekSeq tag n) s = .next (sought none .clamped)) ∧
    (∀ (k : Nat) (rec_ : IntervalRecord), r.recs[k]? = some rec_ → qualifies rec_ →
      (∀ j q, j < k → r.recs[j]? = some q → ¬ qualifies q) →
      exec (.archiveSeekTime tag n) s = .next (sought (some (low + k)) .ok)) ∧
    ((∀ rec_ ∈ r.recs, ¬ qualifies rec_) →
      exec (.archiveSeekTime tag n) s = .next (sought none .ok)) ∧
    (∀ (payload : List Byte) (ok : Bool), s.link.rx = .hunt → payload.length ≤ 240 →
      (∀ f, payload = [f] → 1 < f.toNat) →
      (∀ f a b c d, payload = [f, a, b, c, d] → f.toNat ≠ 2 ∧ f.toNat ≠ 3) →
      execAll ((frame 0x70 tag payload).map fun b => .frameByteReceived b ok) s =
        .next (sought r.cursor .invalid))

/-- ARCHIVE_READ: the count clamped into 1..8; FORWARD gives the records from the cursor on and goes
to END past the newest, HOLD gives the record at the cursor, BACKWARD gives the records from the
cursor (the newest at END) down, and stays at the oldest with BEGIN; each read reports the overrun
flag and clears it (R177, R178). -/
def Obligations.ArchiveReadsInOrder : Prop :=
  ∀ (tag : Byte) (count : Nat) (s : State), s.ready → s.recmem.sound →
    let r := s.recmem
    let low := r.next - r.recs.length
    let n := max 1 (min 8 count)
    let edge (k : Nat) : Option Nat := if r.recs = [] then none else some k
    let read (records : List IntervalRecord) (c : Option Nat) (begin_ : Bool) : State :=
      ({ s with recmem := { r with cursor := c, overrun := false } }).replied 0x71 tag
        (if n = count then .ok else .clamped)
        (.archive
          { records := records, begin_ := begin_, overrun := r.overrun
            place :=
              { cursor := c, oldest := edge low, newest := edge (r.next - 1), next := r.next } })
    (r.cursor = none →
      exec (.archiveReadForward tag count) s = .next (read [] none false) ∧
      exec (.archiveReadHold tag count) s = .next (read [] none false)) ∧
    (∀ c, r.cursor = some c →
      exec (.archiveReadForward tag count) s = .next
        (read ((r.recs.drop (c - low)).take n) (if c + n < r.next then some (c + n) else none)
          false) ∧
      exec (.archiveReadHold tag count) s = .next
        (read (r.recs[c - low]?).toList (some c) false)) ∧
    (r.recs = [] → exec (.archiveReadBackward tag count) s = .next (read [] none false)) ∧
    (r.recs ≠ [] →
      let top := r.cursor.getD (r.next - 1)
      exec (.archiveReadBackward tag count) s = .next
        (read ((r.recs.take (top - low + 1)).reverse.take n)
          (some (if low + n ≤ top then top - n else low)) (decide (top < low + n))))

/-- RESULT_READ: a slot or a starting index out of its range is INVALID, an EMPTY slot NOT_FOUND;
otherwise the header with the number of records, or whole records from the index on, up to four, as
many as fit: the records sent are all that are left, or four, or the next one would bring the
payload beyond 240 bytes; NEWEST is the highest run number, the highest slot of equals; nothing
changes (R180, R186; the bytes of a record, notes/assumptions/20.md). -/
def Obligations.ResultReadAnswered : Prop :=
  ∀ (tag : Byte) (name : SlotName) (start : Nat) (s : State), s.ready →
    s.recmem.slots.length = 8 →
    let fits : Prop := name = .newest ∨ ∃ n, name = .number n ∧ 1 ≤ n ∧ n ≤ 8
    let found (n : Nat) (r : RunResult) : Prop :=
      s.recmem.slot n = some r ∧
      (name = .number n ∨
        name = .newest ∧ ∀ k q, s.recmem.slot k = some q →
          q.header.runNumber < r.header.runNumber ∨
            q.header.runNumber = r.header.runNumber ∧ k ≤ n)
    let placed : Prop := 1 ≤ start ∧ start ≤ 32
    (¬ fits →
      exec (.resultReadHeader tag name) s = .next (s.replied 0x72 tag .invalid .nothing)) ∧
    (¬ fits ∨ ¬ placed →
      exec (.resultReadVerticals tag name start) s =
        .next (s.replied 0x72 tag .invalid .nothing)) ∧
    (fits → (∀ n r, ¬ found n r) →
      exec (.resultReadHeader tag name) s =
        .next (s.replied 0x72 tag .notFound (.resultSlot name)) ∧
      (placed →
        exec (.resultReadVerticals tag name start) s =
          .next (s.replied 0x72 tag .notFound (.resultSlot name)))) ∧
    (∀ n r, fits → found n r →
      exec (.resultReadHeader tag name) s = .next
        (s.replied 0x72 tag .ok (.resultHeader n r.header r.verts.length)) ∧
      (placed →
        let left := r.verts.filter fun v => decide (start ≤ v.index)
        ∃ sent : List VertRecord,
          let body : ReplyBody :=
            .resultVerts n sent r.verts.length (decide (sent.length < left.length))
          exec (.resultReadVerticals tag name start) s = .next (s.replied 0x72 tag .ok body) ∧
          sent <+: left ∧ sent.length ≤ 4 ∧ (bodyBytes body).length < 240 ∧
          (sent = left ∨ sent.length = 4 ∨
            ∃ v, left[sent.length]? = some v ∧
              240 ≤ (bodyBytes body).length + (vertBytes v).length)))

/-! Reading requests, notices and the link (chapter 12). -/

/-- The requests that read the part change nothing but the reply, and STATUS the reset item: what
STATUS, GET_STAGE, GET_TIME, GET_SETTING, READ_LINES, GET_RATING and GET_PLAN answer, field by field
(R16, R33, R68, R74, R119, R188, R193). GET_PLAN sends entries from the starting index on, eight or
up to entry 32, which fit beside names of twelve characters; the method in effect of a DEFAULT entry
while the buffer has no header is left open (notes/assumptions/36.md). That STATUS gives result slot
and current vertical outside IDLE alone (notes/assumptions/32.md), and how many entries of GET_PLAN
fit by their bytes (notes/assumptions/20.md), is the model's choice. -/
def Obligations.ReadingRequestsReport : Prop :=
  (settingOfCode 0x0618 = some .stormLevel ∧ settingOfCode 0x0614 = some .severeFlowOn) ∧
  ∀ (tag : Byte) (s : State), s.ready →
    (let loading : Option Nat :=
        match s.flash.op with
        | some op => if op.cls = .planLoad then op.slot else none
        | none => none
      ∃ r : StatusReply, exec (.status tag) s = .next
        (({ s with link := { s.link with resetItem := none } }).replied 0x01 tag .ok
          (.status r)) ∧
        r =
          { reset := s.link.resetItem, calendarSet := s.time.calendar.isSome
            source := s.time.source, switchPending := s.time.pending.isSome
            clockFail := s.time.clockFail, locked := decide (s.lock = .locked)
            reportedValue := s.stage.reported.value
            reportedQuality := s.stage.reported.quality, shaft := s.stage.shaft
            press := s.stage.press, disagree := s.stage.disagree, level := s.warn.current
            ack := s.warn.ack, storm := s.storm, lockout := s.lockout, phase := s.run.phase
            runNumber := s.marker.runNumber
            resultSlot := if s.run.phase = .idle then none else some s.marker.slot
            current := if s.run.phase = .idle then none else some s.run.current
            causes := s.run.causes, motionCause := s.run.motionCause
            drive :=
              match s.drive.state with
              | .idle => .idle
              | .moving _ => .moving
              | .settling _ _ => .settling
              | .faulted => .faulted
            fault := s.drive.fault.map fun f => (f.cause, f.axis, f.mono)
            travelRef := s.drive.travelRef, reelRef := s.drive.reelRef
            flashOp := s.flash.op.map fun op => (op.cls, op.slot)
            lastSettings := s.flash.lastSettings, lastRating := s.flash.lastRating
            lastPlanStore := s.flash.lastPlanStore, lastPlanLoad := s.flash.lastPlanLoad
            settingsValid := s.stored.isSome, generation := s.rating.generation
            activeRows := s.rating.active.length, ratingValid := s.rating.stored.isSome
            buffer := s.plan.buffer, loading := loading
            oldest := s.recmem.recs.head?.map (·.seq)
            newest := s.recmem.recs.getLast?.map (·.seq), next := s.recmem.next
            overrun := s.recmem.overrun, station := s.identity.getD 0
            notices := s.link.queue.map Notice.kind }) ∧
    (∃ r : StageReply,
      exec (.getStage tag) s = .next (s.replied 0x02 tag .ok (.stage r)) ∧
      (s.stage.shaft = .unreferenced → r.shaftLive = none) ∧
      (s.stage.shaft ≠ .unreferenced →
        r.shaftLive = some (max (-2000) (min 32000 (s.stage.shaftOffset +
          roundDiv (s.float.count * s.num .floatCircumference)
            (s.num .floatLines * s.float.mult * 1000))))) ∧
      (s.stage.meas = none → r.pressLive = none ∧ r.pressAge = none) ∧
      (∀ m, s.stage.meas = some m →
        (m.freq < s.num .pressureFMin ∨ s.num .pressureFMax < m.freq →
          r.pressLive = none ∧ r.pressAge = none) ∧
        (s.num .pressureFMin ≤ m.freq → m.freq ≤ s.num .pressureFMax →
          r.pressLive = some (max (-2000) (min 32000 (s.stage.pressOffset +
            roundDiv
              (s.num .pressureGaugeFactor *
                (s.num .pressureF0 * s.num .pressureF0 - m.freq * m.freq)) 10000000000))) ∧
          r.pressAge = some (s.time.mono - m.mono))) ∧
      r = { shaftLive := r.shaftLive, pressLive := r.pressLive, pressAge := r.pressAge
            shaft := s.stage.shaft, press := s.stage.press, disagree := s.stage.disagree
            reported := s.stage.reported, rate := s.samp.rate, level := s.warn.current
            storm := s.storm, period := s.samp.period, next := s.samp.next
            onCalendar := s.time.calendar.isSome, forming := s.samp.forming.isSome
            history := s.history.length }) ∧
    (exec (.getTime tag) s = .next
      (s.replied 0x10 tag .ok (.time
        { calendar := s.time.calendar, mono := s.time.mono, subSecond := s.time.subSecond,
          source := s.time.source, pending := s.time.pending, clockFail := s.time.clockFail,
          locked := decide (s.lock = .locked)
          quality :=
            match s.time.calendar, s.time.source with
            | none, _ => .unset
            | some _, .crystal => .crystal
            | some _, .rc => .rc }))) ∧
    (∀ id, settingOfCode id = none →
      exec (.getSetting tag id) s = .next (s.replied 0x20 tag .notFound .nothing)) ∧
    (∀ id i, settingOfCode id = some i →
      exec (.getSetting tag id) s = .next
        (s.replied 0x20 tag .ok
          (.setting id
            (if i = .pressureOffset then some s.stage.pressOffset else s.settings.get i)
            i.default))) ∧
    (∃ (levels : List Bool) (items : List CaptureItems),
      exec (.readLines tag) s = .next (s.replied 0x41 tag .ok (.lines levels items s.outs)) ∧
      levels.length = 8 ∧ items.length = 8 ∧
      ∀ i : Contact, levels[i.ctorIdx]? = some (s.level i) ∧
        items[i.ctorIdx]? =
          some
            { falling := (s.contacts.get i).falling, armed := (s.contacts.get i).armed,
              captured := (s.contacts.get i).captured, notice := (s.contacts.get i).notice }) ∧
    (∀ table,
      let answer (rows : List Row) : State :=
        s.replied 0x32 tag .ok (.rating
          { rows := rows, generation := s.rating.generation
            storedValid := s.rating.stored.isSome
            inFlight := decide (s.flash.op.map (·.cls) = some .rating) })
      (table = 0 → exec (.getRating tag table) s = .next (answer s.rating.active)) ∧
      (table = 1 → exec (.getRating tag table) s = .next (answer s.rating.staging)) ∧
      (2 ≤ table → exec (.getRating tag table) s = .next (s.replied 0x32 tag .invalid .nothing))) ∧
    (∀ start,
      (start < 1 ∨ 32 < start →
        exec (.getPlan tag start) s = .next (s.replied 0x53 tag .invalid .nothing)) ∧
      (1 ≤ start → start ≤ 32 →
        ∃ r : PlanReply, exec (.getPlan tag start) s = .next (s.replied 0x53 tag .ok (.plan r)) ∧
          r.buffer = s.plan.buffer ∧ r.lastFault = s.plan.lastFault ∧
          r.header = s.plan.header ∧
          r.loading =
            (match s.flash.op with
              | some op => if op.cls = .planLoad then op.slot else none
              | none => none) ∧
          r.slots =
            s.plan.slots.map (fun p => p.map fun q => (q.plan.header.name, q.plan.header.count)) ∧
          r.entries.length ≤ 8 ∧
          (∀ k e, r.entries[k]? = some e → e.1 = start + k ∧ e.1 ≤ 32 ∧
            e.2.map (·.1) = (s.plan.entries[start + k - 1]?).join ∧
            (∀ x d c eff, e.2 = some (.edge x d c, eff) → eff = none) ∧
            (∀ x m t n eff, e.2 = some (.metered x m t n, eff) →
              (m ≠ .default → eff = some m) ∧
              (∀ h, s.plan.header = some h → m = .default → eff = some h.method) ∧
              eff.isSome)) ∧
          ((∀ h, s.plan.header = some h → h.name.length ≤ 12) →
            (∀ p, some p ∈ s.plan.slots → p.plan.header.name.length ≤ 12) →
            s.plan.slots.length ≤ 6 →
            r.entries.length = min 8 (33 - start) ∧ (bodyBytes (.plan r)).length < 240) ∧
          r.next =
            if start + r.entries.length ≤ 32 then some (start + r.entries.length) else none))

/-- The notice queue: a notice of a kind not queued goes last, one of a queued kind is combined in
its place, by kind; TAKE_NOTICE takes the oldest entry and ATTN follows, or answers EMPTY (R31, R54,
R88, R179, R194, R195). -/
def Obligations.NoticesQueuedAndTaken : Prop :=
  (∀ (n : Notice) (q : List Notice), (∀ m ∈ q, m.kind ≠ n.kind) → enqueue n q = q ++ [n]) ∧
  (∀ (n m : Notice) (a b : List Notice), (∀ x ∈ a, x.kind ≠ n.kind) → m.kind = n.kind →
    enqueue n (a ++ m :: b) = a ++ m.combine n :: b) ∧
  (∀ o n : LevelNotice,
    (Notice.level o).combine (.level n) =
      .level
        { n with
          from_ := o.from_, peak := if o.peak.code ≤ n.to_.code then n.to_ else o.peak }) ∧
  (∀ o n : SensorNotice,
    (Notice.sensor o).combine (.sensor n) =
      .sensor
        { n with
          changed :=
            { shaft := o.changed.shaft || n.changed.shaft
              press := o.changed.press || n.changed.press
              disagree := o.changed.disagree || n.changed.disagree } }) ∧
  (∀ o n : LineSet, ∃ m, (Notice.line o).combine (.line n) = .line m ∧
    ∀ i, m.has i = (o.has i || n.has i)) ∧
  (∀ o n : ArchiveNotice,
    (Notice.archive o).combine (.archive n) =
      .archive
        { n with
          skipped := o.skipped + n.skipped, renumbered := o.renumbered || n.renumbered }) ∧
  (∀ o n : Notice, o.kind = n.kind →
    n.kind = .run ∨ n.kind = .longOp ∨ n.kind = .clock ∨ n.kind = .motion → o.combine n = n) ∧
  (∀ (tag : Byte) (s : State), s.ready →
    (s.link.queue = [] →
      exec (.takeNotice tag) s = .next (s.replied 0x78 tag .empty .nothing)) ∧
    (∀ n q, s.link.queue = n :: q →
      exec (.takeNotice tag) s = .next
        (({ s with
            link := { s.link with queue := q }
            outs := { s.outs with attn := !q.isEmpty } }).replied 0x78 tag .ok (.notice n))))

/-- What the receiver discards, the kinds it does not know, and the end of a reply. In HUNT the
start byte 0xC3 starts a frame and any other byte is discarded; a late byte, a framing error and a
CRC mismatch bring it to HUNT, as does a length above 240 at the length byte; a byte that arrives
while a reply is in progress is discarded; a kind with bit 7 set is not in the list, and an unlisted
kind is answered UNKNOWN (R181, R183, R184). RESTART is answered OK in every state, its WARM takes
place when its reply has been sent (stated with WARM), and the end of any other reply leaves no
reply in progress (R183, R192). That REPLY_SENT with no reply in progress leaves the state as it is
(notes/assumptions/1.md), and that the three events of a discarded frame are taken whatever the
receiver's state and the tick clock (notes/assumptions/1.md and 28.md), is the model's form of the
events. -/
def Obligations.FramesDiscardedOrUnknown : Prop :=
  (∀ s : State, s.powered = true →
    let hunting : State := { s with link := { s.link with rx := .hunt } }
    (∀ (b : Byte) (ok : Bool), s.link.reply = none → s.link.rx = .hunt →
      (b = 0xC3 → exec (.frameByteReceived b ok) s =
        .next { s with link := { s.link with rx := .receiving [] s.ticks } }) ∧
      (b ≠ 0xC3 → exec (.frameByteReceived b ok) s = .next s)) ∧
    (∀ (b : Byte) (ok : Bool), s.link.reply.isSome →
      exec (.frameByteReceived b ok) s = .next s) ∧
    exec .frameInterbyteTimeout s = .next hunting ∧
    exec .frameByteFramingError s = .next hunting ∧
    exec .frameCrcMismatch s = .next hunting ∧
    (∀ last, s.link.rx = .receiving [] last →
      exec .frameLengthInvalid s = .next hunting ∧
      ∀ (b : Byte) (ok : Bool), s.link.reply = none → 240 < b.toNat →
        exec (.frameByteReceived b ok) s = .next hunting)) ∧
  (∀ kind : Byte, 0x80 ≤ kind → listedKind kind = false) ∧
  (∀ (kind tag : Byte) (s : State), s.ready → listedKind kind = false →
    exec (.unknownRequest kind tag) s = .next (s.replied kind tag .unknown .nothing)) ∧
  (∀ (tag : Byte) (s : State),
    (s.ready →
      exec (.restart tag) s = .next
        (({ s with link := { s.link with restart := true } }).replied 0x7F tag .ok .nothing)) ∧
    (s.powered = true →
      (s.link.reply = none → exec .replySent s = .next s) ∧
      (∀ r, s.link.reply = some r → s.link.restart = false →
        exec .replySent s = .next { s with link := { s.link with reply := none } }) ∧
      (∀ r, s.link.reply = some r → s.link.restart = true →
        ∃ t, exec .replySent s = .next t ∧ s.startedAs t .warmRestart ∧ t.time = s.time ∧
          t.ticks = s.ticks ∧ t.history = s.history ∧
          t.marker.runNumber = s.marker.runNumber)))

/-- The bytes of a request's frame, received one after the other by a receiver in HUNT, do what the
request as a command does (R181 to R184, R186, with the field layouts of notes/assumptions/20.md).
-/
def Obligations.FrameBytesServeRequest : Prop :=
  ∀ (i : Instr) (kind tag : Byte) (payload : List Byte) (ok : Bool) (s : State),
    i.wf = true → writesAs i ok → encodeRequest i = some (kind, tag, payload) → s.ready →
    s.link.rx = .hunt →
    let bytes := frame kind tag payload
    execAll (bytes.map fun b => .frameByteReceived b ok) s =
      exec i
        { s with link := { s.link with rx := .receiving (bytes.drop 1).dropLast s.ticks } }

/-- Decoding the payload of a well-formed request gives the request back (R184, R186, with the field
layouts of notes/assumptions/20.md). -/
def Obligations.RequestEncodingRoundTrip : Prop :=
  ∀ (i : Instr) (kind tag : Byte) (payload : List Byte) (ok : Bool),
    i.wf = true → writesAs i ok → encodeRequest i = some (kind, tag, payload) →
    payload.length ≤ 240 ∧ decodeRequest kind tag payload ok = .command i

/-! What every step keeps. -/

/-- Every step keeps the timebase and the counts in their ranges (R4, R6, R9, R13, R21, R26, 2.1).
-/
def Obligations.StepKeepsTimebaseAndCounts : Prop :=
  ∀ s t : State, s.time.sound → s.countsSound → step s = .next t →
    t.time.sound ∧ t.countsSound

/-- Every step keeps the drive outputs those of the drive state, and a travel move in flight only
with the weight at the top (R102, R104 to R106). -/
def Obligations.StepKeepsDriveSound : Prop :=
  ∀ s t : State, s.driveSound → step s = .next t → t.driveSound

/-- Every step keeps one entry of a kind at most in the queue, and ATTN following it (R194, R195).
-/
def Obligations.StepKeepsNoticesSound : Prop :=
  ∀ s t : State, s.noticesSound → step s = .next t → t.noticesSound

/-- Every step keeps the hold cause set in line with lockout, no working phase under LOCKOUT, and
exposures in EXPOSE alone (R137, R141). -/
def Obligations.StepKeepsLockoutSound : Prop :=
  ∀ s t : State, s.lockoutSound → step s = .next t → t.lockoutSound

/-- Every step keeps the warning counters in their ranges, the latched levels exactly the enabled
ones up to the current level, and the acknowledged level at or below it (R82, R85, R86, R89, R92,
R95, R97). -/
def Obligations.StepKeepsWarningSound : Prop :=
  ∀ s t : State, s.settingsSound → s.warningSound → step s = .next t → t.warningSound

/-- Every step keeps the rating tables ordered and in their ranges, and a VALID plan buffer without
fault under the present tolerance (R69, R73, R75 to R79, R117, R118, R125). -/
def Obligations.StepKeepsRatingAndPlanSound : Prop :=
  ∀ s t : State, step s = .next t →
    (s.rating.sound → t.rating.sound) ∧ (s.planSound → t.planSound)

/-- Every step keeps the archive numbered one after the other, within its 8 000 records, with its
cursor at END or on a record held (R169, R170, R175 to R179). -/
def Obligations.StepKeepsArchiveSound : Prop :=
  ∀ s t : State, s.recmem.sound → step s = .next t → t.recmem.sound

/-- Every step keeps the reported stage, its quality and the history in agreement and in range (R39,
R52, R53, R66). -/
def Obligations.StepKeepsStageSound : Prop :=
  ∀ s t : State, s.stageSound → step s = .next t → t.stageSound

/-- Every step keeps the settings in their ranges and lists, with the structural checks of their
owners (R3, R39, R56, R81, R126, R151, R189, R190). -/
def Obligations.StepKeepsSettingsSound : Prop :=
  ∀ s t : State, s.settingsSound → step s = .next t → t.settingsSound

/-- The state right after reset: it meets every invariant, and holds what COLD leaves in a part as
it leaves manufacture (R18, R55, R66, R96, R122, R169, R190, R191; its pins and spacing by
notes/assumptions/8.md). -/
def Obligations.InvariantsHoldAtReset : Prop :=
  (State.reset.time.sound ∧ State.reset.countsSound ∧ State.reset.driveSound ∧
  State.reset.noticesSound ∧ State.reset.lockoutSound ∧ State.reset.warningSound ∧
  State.reset.rating.sound ∧ State.reset.recmem.sound ∧ State.reset.stageSound ∧
  State.reset.settingsSound ∧ State.reset.planSound) ∧
  State.reset.startedAs State.reset .cold ∧
  State.reset.time =
    { source := .rc, pending := some { good := 0, closed := 0 }, bad := 0, recent := [],
      clockFail := false, subSecond := 0, mono := 0, calendar := none } ∧
  State.reset.stage.shaft = .unreferenced ∧ State.reset.stage.press = .healthy ∧
  State.reset.stage.reported = { value := none, quality := .missing, mono := none } ∧
  State.reset.history = [] ∧ State.reset.warn.current = .normal ∧
  State.reset.warn.ack = .normal ∧ State.reset.settings = .defaults ∧
  State.reset.stored = none ∧ State.reset.identity = none ∧ State.reset.recmem.recs = [] ∧
  State.reset.plan.slots = List.replicate 6 none
end

