-- ==== Sys2Proof/Laws/State.lean ====
section
/-! SUPPORT. What each update of the state changes and what it leaves, field by field, so that no proof
unfolds a record update. -/

namespace Sys2Proof.Machine

@[simp] theorem State.setQuad_float_fields (s : State) (q : Quad) :
    (s.setQuad .float q).float = q ∧ (s.setQuad .float q).powered = s.powered ∧
    (s.setQuad .float q).ticks = s.ticks ∧ (s.setQuad .float q).time = s.time ∧
    (s.setQuad .float q).lock = s.lock ∧ (s.setQuad .float q).travel = s.travel ∧
    (s.setQuad .float q).reel = s.reel ∧ (s.setQuad .float q).index = s.index ∧
    (s.setQuad .float q).rotor = s.rotor ∧ (s.setQuad .float q).press = s.press ∧
    (s.setQuad .float q).contacts = s.contacts ∧ (s.setQuad .float q).outs = s.outs ∧
    (s.setQuad .float q).stage = s.stage ∧ (s.setQuad .float q).samp = s.samp ∧
    (s.setQuad .float q).history = s.history ∧ (s.setQuad .float q).rating = s.rating ∧
    (s.setQuad .float q).warn = s.warn ∧ (s.setQuad .float q).drive = s.drive ∧
    (s.setQuad .float q).plan = s.plan ∧ (s.setQuad .float q).flash = s.flash ∧
    (s.setQuad .float q).run = s.run ∧ (s.setQuad .float q).marker = s.marker ∧
    (s.setQuad .float q).recmem = s.recmem ∧ (s.setQuad .float q).settings = s.settings ∧
    (s.setQuad .float q).stored = s.stored ∧ (s.setQuad .float q).identity = s.identity ∧
    (s.setQuad .float q).link = s.link ∧ (s.setQuad .float q).pending = s.pending := by
  and_intros <;> rfl

@[simp] theorem State.setQuad_travel_fields (s : State) (q : Quad) :
    (s.setQuad .travel q).travel = q ∧ (s.setQuad .travel q).powered = s.powered ∧
    (s.setQuad .travel q).ticks = s.ticks ∧ (s.setQuad .travel q).time = s.time ∧
    (s.setQuad .travel q).lock = s.lock ∧ (s.setQuad .travel q).float = s.float ∧
    (s.setQuad .travel q).reel = s.reel ∧ (s.setQuad .travel q).index = s.index ∧
    (s.setQuad .travel q).rotor = s.rotor ∧ (s.setQuad .travel q).press = s.press ∧
    (s.setQuad .travel q).contacts = s.contacts ∧ (s.setQuad .travel q).outs = s.outs ∧
    (s.setQuad .travel q).stage = s.stage ∧ (s.setQuad .travel q).samp = s.samp ∧
    (s.setQuad .travel q).history = s.history ∧ (s.setQuad .travel q).rating = s.rating ∧
    (s.setQuad .travel q).warn = s.warn ∧ (s.setQuad .travel q).drive = s.drive ∧
    (s.setQuad .travel q).plan = s.plan ∧ (s.setQuad .travel q).flash = s.flash ∧
    (s.setQuad .travel q).run = s.run ∧ (s.setQuad .travel q).marker = s.marker ∧
    (s.setQuad .travel q).recmem = s.recmem ∧ (s.setQuad .travel q).settings = s.settings ∧
    (s.setQuad .travel q).stored = s.stored ∧ (s.setQuad .travel q).identity = s.identity ∧
    (s.setQuad .travel q).link = s.link ∧ (s.setQuad .travel q).pending = s.pending := by
  and_intros <;> rfl

@[simp] theorem State.setQuad_reel_fields (s : State) (q : Quad) :
    (s.setQuad .reel q).reel = q ∧ (s.setQuad .reel q).powered = s.powered ∧
    (s.setQuad .reel q).ticks = s.ticks ∧ (s.setQuad .reel q).time = s.time ∧
    (s.setQuad .reel q).lock = s.lock ∧ (s.setQuad .reel q).float = s.float ∧
    (s.setQuad .reel q).travel = s.travel ∧ (s.setQuad .reel q).index = s.index ∧
    (s.setQuad .reel q).rotor = s.rotor ∧ (s.setQuad .reel q).press = s.press ∧
    (s.setQuad .reel q).contacts = s.contacts ∧ (s.setQuad .reel q).outs = s.outs ∧
    (s.setQuad .reel q).stage = s.stage ∧ (s.setQuad .reel q).samp = s.samp ∧
    (s.setQuad .reel q).history = s.history ∧ (s.setQuad .reel q).rating = s.rating ∧
    (s.setQuad .reel q).warn = s.warn ∧ (s.setQuad .reel q).drive = s.drive ∧
    (s.setQuad .reel q).plan = s.plan ∧ (s.setQuad .reel q).flash = s.flash ∧
    (s.setQuad .reel q).run = s.run ∧ (s.setQuad .reel q).marker = s.marker ∧
    (s.setQuad .reel q).recmem = s.recmem ∧ (s.setQuad .reel q).settings = s.settings ∧
    (s.setQuad .reel q).stored = s.stored ∧ (s.setQuad .reel q).identity = s.identity ∧
    (s.setQuad .reel q).link = s.link ∧ (s.setQuad .reel q).pending = s.pending := by
  and_intros <;> rfl

@[simp] theorem State.setQueue_fields (s : State) (q : List Notice) :
    (s.setQueue q).link = { s.link with queue := q } ∧
    (s.setQueue q).outs = { s.outs with attn := !q.isEmpty } ∧ (s.setQueue q).powered = s.powered ∧
    (s.setQueue q).ticks = s.ticks ∧ (s.setQueue q).time = s.time ∧ (s.setQueue q).lock = s.lock ∧
    (s.setQueue q).float = s.float ∧ (s.setQueue q).travel = s.travel ∧
    (s.setQueue q).reel = s.reel ∧ (s.setQueue q).index = s.index ∧
    (s.setQueue q).rotor = s.rotor ∧ (s.setQueue q).press = s.press ∧
    (s.setQueue q).contacts = s.contacts ∧ (s.setQueue q).stage = s.stage ∧
    (s.setQueue q).samp = s.samp ∧ (s.setQueue q).history = s.history ∧
    (s.setQueue q).rating = s.rating ∧ (s.setQueue q).warn = s.warn ∧
    (s.setQueue q).drive = s.drive ∧ (s.setQueue q).plan = s.plan ∧
    (s.setQueue q).flash = s.flash ∧ (s.setQueue q).run = s.run ∧
    (s.setQueue q).marker = s.marker ∧ (s.setQueue q).recmem = s.recmem ∧
    (s.setQueue q).settings = s.settings ∧ (s.setQueue q).stored = s.stored ∧
    (s.setQueue q).identity = s.identity ∧ (s.setQueue q).pending = s.pending := by
  and_intros <;> rfl

@[simp] theorem State.setMoving_fields (s : State) (m : Move) :
    (s.setMoving m).drive = { s.drive with state := .moving m } ∧
    (s.setMoving m).outs = s.outs.driveMove m ∧ (s.setMoving m).powered = s.powered ∧
    (s.setMoving m).ticks = s.ticks ∧ (s.setMoving m).time = s.time ∧
    (s.setMoving m).lock = s.lock ∧ (s.setMoving m).float = s.float ∧
    (s.setMoving m).travel = s.travel ∧ (s.setMoving m).reel = s.reel ∧
    (s.setMoving m).index = s.index ∧ (s.setMoving m).rotor = s.rotor ∧
    (s.setMoving m).press = s.press ∧ (s.setMoving m).contacts = s.contacts ∧
    (s.setMoving m).stage = s.stage ∧ (s.setMoving m).samp = s.samp ∧
    (s.setMoving m).history = s.history ∧ (s.setMoving m).rating = s.rating ∧
    (s.setMoving m).warn = s.warn ∧ (s.setMoving m).plan = s.plan ∧
    (s.setMoving m).flash = s.flash ∧ (s.setMoving m).run = s.run ∧
    (s.setMoving m).marker = s.marker ∧ (s.setMoving m).recmem = s.recmem ∧
    (s.setMoving m).settings = s.settings ∧ (s.setMoving m).stored = s.stored ∧
    (s.setMoving m).identity = s.identity ∧ (s.setMoving m).link = s.link ∧
    (s.setMoving m).pending = s.pending := by
  and_intros <;> rfl

@[simp] theorem State.setStopped_fields (s : State) (d : DriveState) :
    (s.setStopped d).drive = { s.drive with state := d } ∧
    (s.setStopped d).outs = s.outs.driveOff ∧ (s.setStopped d).powered = s.powered ∧
    (s.setStopped d).ticks = s.ticks ∧ (s.setStopped d).time = s.time ∧
    (s.setStopped d).lock = s.lock ∧ (s.setStopped d).float = s.float ∧
    (s.setStopped d).travel = s.travel ∧ (s.setStopped d).reel = s.reel ∧
    (s.setStopped d).index = s.index ∧ (s.setStopped d).rotor = s.rotor ∧
    (s.setStopped d).press = s.press ∧ (s.setStopped d).contacts = s.contacts ∧
    (s.setStopped d).stage = s.stage ∧ (s.setStopped d).samp = s.samp ∧
    (s.setStopped d).history = s.history ∧ (s.setStopped d).rating = s.rating ∧
    (s.setStopped d).warn = s.warn ∧ (s.setStopped d).plan = s.plan ∧
    (s.setStopped d).flash = s.flash ∧ (s.setStopped d).run = s.run ∧
    (s.setStopped d).marker = s.marker ∧ (s.setStopped d).recmem = s.recmem ∧
    (s.setStopped d).settings = s.settings ∧ (s.setStopped d).stored = s.stored ∧
    (s.setStopped d).identity = s.identity ∧ (s.setStopped d).link = s.link ∧
    (s.setStopped d).pending = s.pending := by
  and_intros <;> rfl

@[simp] theorem State.modRun_fields (s : State) (f : RunUnit → RunUnit) :
    (s.modRun f).run = f s.run ∧ (s.modRun f).powered = s.powered ∧ (s.modRun f).ticks = s.ticks ∧
    (s.modRun f).time = s.time ∧ (s.modRun f).lock = s.lock ∧ (s.modRun f).float = s.float ∧
    (s.modRun f).travel = s.travel ∧ (s.modRun f).reel = s.reel ∧ (s.modRun f).index = s.index ∧
    (s.modRun f).rotor = s.rotor ∧ (s.modRun f).press = s.press ∧
    (s.modRun f).contacts = s.contacts ∧ (s.modRun f).outs = s.outs ∧
    (s.modRun f).stage = s.stage ∧ (s.modRun f).samp = s.samp ∧ (s.modRun f).history = s.history ∧
    (s.modRun f).rating = s.rating ∧ (s.modRun f).warn = s.warn ∧ (s.modRun f).drive = s.drive ∧
    (s.modRun f).plan = s.plan ∧ (s.modRun f).flash = s.flash ∧ (s.modRun f).marker = s.marker ∧
    (s.modRun f).recmem = s.recmem ∧ (s.modRun f).settings = s.settings ∧
    (s.modRun f).stored = s.stored ∧ (s.modRun f).identity = s.identity ∧
    (s.modRun f).link = s.link ∧ (s.modRun f).pending = s.pending := by
  and_intros <;> rfl

@[simp] theorem State.clearMarker_fields (s : State) :
    (s.clearMarker).marker = { s.marker with active := false } ∧
    (s.clearMarker).powered = s.powered ∧ (s.clearMarker).ticks = s.ticks ∧
    (s.clearMarker).time = s.time ∧ (s.clearMarker).lock = s.lock ∧
    (s.clearMarker).float = s.float ∧ (s.clearMarker).travel = s.travel ∧
    (s.clearMarker).reel = s.reel ∧ (s.clearMarker).index = s.index ∧
    (s.clearMarker).rotor = s.rotor ∧ (s.clearMarker).press = s.press ∧
    (s.clearMarker).contacts = s.contacts ∧ (s.clearMarker).outs = s.outs ∧
    (s.clearMarker).stage = s.stage ∧ (s.clearMarker).samp = s.samp ∧
    (s.clearMarker).history = s.history ∧ (s.clearMarker).rating = s.rating ∧
    (s.clearMarker).warn = s.warn ∧ (s.clearMarker).drive = s.drive ∧
    (s.clearMarker).plan = s.plan ∧ (s.clearMarker).flash = s.flash ∧ (s.clearMarker).run = s.run ∧
    (s.clearMarker).recmem = s.recmem ∧ (s.clearMarker).settings = s.settings ∧
    (s.clearMarker).stored = s.stored ∧ (s.clearMarker).identity = s.identity ∧
    (s.clearMarker).link = s.link ∧ (s.clearMarker).pending = s.pending := by
  and_intros <;> rfl

@[simp] theorem State.modContact_fields (s : State) (i : Contact) (f : ContactLine → ContactLine) :
    (s.modContact i f).contacts = s.contacts.set i (f (s.contacts.get i)) ∧
    (s.modContact i f).powered = s.powered ∧ (s.modContact i f).ticks = s.ticks ∧
    (s.modContact i f).time = s.time ∧ (s.modContact i f).lock = s.lock ∧
    (s.modContact i f).float = s.float ∧ (s.modContact i f).travel = s.travel ∧
    (s.modContact i f).reel = s.reel ∧ (s.modContact i f).index = s.index ∧
    (s.modContact i f).rotor = s.rotor ∧ (s.modContact i f).press = s.press ∧
    (s.modContact i f).outs = s.outs ∧ (s.modContact i f).stage = s.stage ∧
    (s.modContact i f).samp = s.samp ∧ (s.modContact i f).history = s.history ∧
    (s.modContact i f).rating = s.rating ∧ (s.modContact i f).warn = s.warn ∧
    (s.modContact i f).drive = s.drive ∧ (s.modContact i f).plan = s.plan ∧
    (s.modContact i f).flash = s.flash ∧ (s.modContact i f).run = s.run ∧
    (s.modContact i f).marker = s.marker ∧ (s.modContact i f).recmem = s.recmem ∧
    (s.modContact i f).settings = s.settings ∧ (s.modContact i f).stored = s.stored ∧
    (s.modContact i f).identity = s.identity ∧ (s.modContact i f).link = s.link ∧
    (s.modContact i f).pending = s.pending := by
  and_intros <;> rfl

@[simp] theorem State.modLines_fields (s : State) (l : LineSet) (f : Contact → ContactLine → ContactLine) :
    (s.modLines l f).contacts = (s.contacts.map fun i c => if l.has i then f i c else c) ∧
    (s.modLines l f).powered = s.powered ∧ (s.modLines l f).ticks = s.ticks ∧
    (s.modLines l f).time = s.time ∧ (s.modLines l f).lock = s.lock ∧
    (s.modLines l f).float = s.float ∧ (s.modLines l f).travel = s.travel ∧
    (s.modLines l f).reel = s.reel ∧ (s.modLines l f).index = s.index ∧
    (s.modLines l f).rotor = s.rotor ∧ (s.modLines l f).press = s.press ∧
    (s.modLines l f).outs = s.outs ∧ (s.modLines l f).stage = s.stage ∧
    (s.modLines l f).samp = s.samp ∧ (s.modLines l f).history = s.history ∧
    (s.modLines l f).rating = s.rating ∧ (s.modLines l f).warn = s.warn ∧
    (s.modLines l f).drive = s.drive ∧ (s.modLines l f).plan = s.plan ∧
    (s.modLines l f).flash = s.flash ∧ (s.modLines l f).run = s.run ∧
    (s.modLines l f).marker = s.marker ∧ (s.modLines l f).recmem = s.recmem ∧
    (s.modLines l f).settings = s.settings ∧ (s.modLines l f).stored = s.stored ∧
    (s.modLines l f).identity = s.identity ∧ (s.modLines l f).link = s.link ∧
    (s.modLines l f).pending = s.pending := by
  and_intros <;> rfl

@[simp] theorem State.startOp_fields (s : State) (c : FlashClass) (n : Option Nat) :
    (s.startOp c n).flash = { s.flash with op := some { cls := c, slot := n, mono := s.time.mono } } ∧
    (s.startOp c n).powered = s.powered ∧ (s.startOp c n).ticks = s.ticks ∧
    (s.startOp c n).time = s.time ∧ (s.startOp c n).lock = s.lock ∧
    (s.startOp c n).float = s.float ∧ (s.startOp c n).travel = s.travel ∧
    (s.startOp c n).reel = s.reel ∧ (s.startOp c n).index = s.index ∧
    (s.startOp c n).rotor = s.rotor ∧ (s.startOp c n).press = s.press ∧
    (s.startOp c n).contacts = s.contacts ∧ (s.startOp c n).outs = s.outs ∧
    (s.startOp c n).stage = s.stage ∧ (s.startOp c n).samp = s.samp ∧
    (s.startOp c n).history = s.history ∧ (s.startOp c n).rating = s.rating ∧
    (s.startOp c n).warn = s.warn ∧ (s.startOp c n).drive = s.drive ∧
    (s.startOp c n).plan = s.plan ∧ (s.startOp c n).run = s.run ∧
    (s.startOp c n).marker = s.marker ∧ (s.startOp c n).recmem = s.recmem ∧
    (s.startOp c n).settings = s.settings ∧ (s.startOp c n).stored = s.stored ∧
    (s.startOp c n).identity = s.identity ∧ (s.startOp c n).link = s.link ∧
    (s.startOp c n).pending = s.pending := by
  and_intros <;> rfl

@[simp] theorem State.endOp_fields (s : State) :
    (s.endOp).flash = { s.flash with op := none } ∧ (s.endOp).powered = s.powered ∧
    (s.endOp).ticks = s.ticks ∧ (s.endOp).time = s.time ∧ (s.endOp).lock = s.lock ∧
    (s.endOp).float = s.float ∧ (s.endOp).travel = s.travel ∧ (s.endOp).reel = s.reel ∧
    (s.endOp).index = s.index ∧ (s.endOp).rotor = s.rotor ∧ (s.endOp).press = s.press ∧
    (s.endOp).contacts = s.contacts ∧ (s.endOp).outs = s.outs ∧ (s.endOp).stage = s.stage ∧
    (s.endOp).samp = s.samp ∧ (s.endOp).history = s.history ∧ (s.endOp).rating = s.rating ∧
    (s.endOp).warn = s.warn ∧ (s.endOp).drive = s.drive ∧ (s.endOp).plan = s.plan ∧
    (s.endOp).run = s.run ∧ (s.endOp).marker = s.marker ∧ (s.endOp).recmem = s.recmem ∧
    (s.endOp).settings = s.settings ∧ (s.endOp).stored = s.stored ∧
    (s.endOp).identity = s.identity ∧ (s.endOp).link = s.link ∧ (s.endOp).pending = s.pending := by
  and_intros <;> rfl

@[simp] theorem State.dropPhase_fields (s : State) :
    (s.dropPhase).index = { s.index with phase := none } ∧ (s.dropPhase).powered = s.powered ∧
    (s.dropPhase).ticks = s.ticks ∧ (s.dropPhase).time = s.time ∧ (s.dropPhase).lock = s.lock ∧
    (s.dropPhase).float = s.float ∧ (s.dropPhase).travel = s.travel ∧ (s.dropPhase).reel = s.reel ∧
    (s.dropPhase).rotor = s.rotor ∧ (s.dropPhase).press = s.press ∧
    (s.dropPhase).contacts = s.contacts ∧ (s.dropPhase).outs = s.outs ∧
    (s.dropPhase).stage = s.stage ∧ (s.dropPhase).samp = s.samp ∧
    (s.dropPhase).history = s.history ∧ (s.dropPhase).rating = s.rating ∧
    (s.dropPhase).warn = s.warn ∧ (s.dropPhase).drive = s.drive ∧ (s.dropPhase).plan = s.plan ∧
    (s.dropPhase).flash = s.flash ∧ (s.dropPhase).run = s.run ∧ (s.dropPhase).marker = s.marker ∧
    (s.dropPhase).recmem = s.recmem ∧ (s.dropPhase).settings = s.settings ∧
    (s.dropPhase).stored = s.stored ∧ (s.dropPhase).identity = s.identity ∧
    (s.dropPhase).link = s.link ∧ (s.dropPhase).pending = s.pending := by
  and_intros <;> rfl

@[simp] theorem State.copyFloat_fields (s : State) :
    (s.copyFloat).stage = { s.stage with linesCopy := s.num .floatLines, circCopy := s.num .floatCircumference } ∧
    (s.copyFloat).powered = s.powered ∧ (s.copyFloat).ticks = s.ticks ∧
    (s.copyFloat).time = s.time ∧ (s.copyFloat).lock = s.lock ∧ (s.copyFloat).float = s.float ∧
    (s.copyFloat).travel = s.travel ∧ (s.copyFloat).reel = s.reel ∧ (s.copyFloat).index = s.index ∧
    (s.copyFloat).rotor = s.rotor ∧ (s.copyFloat).press = s.press ∧
    (s.copyFloat).contacts = s.contacts ∧ (s.copyFloat).outs = s.outs ∧
    (s.copyFloat).samp = s.samp ∧ (s.copyFloat).history = s.history ∧
    (s.copyFloat).rating = s.rating ∧ (s.copyFloat).warn = s.warn ∧ (s.copyFloat).drive = s.drive ∧
    (s.copyFloat).plan = s.plan ∧ (s.copyFloat).flash = s.flash ∧ (s.copyFloat).run = s.run ∧
    (s.copyFloat).marker = s.marker ∧ (s.copyFloat).recmem = s.recmem ∧
    (s.copyFloat).settings = s.settings ∧ (s.copyFloat).stored = s.stored ∧
    (s.copyFloat).identity = s.identity ∧ (s.copyFloat).link = s.link ∧
    (s.copyFloat).pending = s.pending := by
  and_intros <;> rfl

@[simp] theorem State.commandSlot_fields (s : State) :
    (s.commandSlot).powered = s.powered ∧ (s.commandSlot).ticks = s.ticks ∧
    (s.commandSlot).time = s.time ∧ (s.commandSlot).lock = s.lock ∧
    (s.commandSlot).float = s.float ∧ (s.commandSlot).travel = s.travel ∧
    (s.commandSlot).reel = s.reel ∧ (s.commandSlot).index = s.index ∧
    (s.commandSlot).rotor = s.rotor ∧ (s.commandSlot).press = s.press ∧
    (s.commandSlot).contacts = s.contacts ∧ (s.commandSlot).stage = s.stage ∧
    (s.commandSlot).samp = s.samp ∧ (s.commandSlot).history = s.history ∧
    (s.commandSlot).rating = s.rating ∧ (s.commandSlot).warn = s.warn ∧
    (s.commandSlot).drive = s.drive ∧ (s.commandSlot).plan = s.plan ∧
    (s.commandSlot).flash = s.flash ∧ (s.commandSlot).run = s.run ∧
    (s.commandSlot).marker = s.marker ∧ (s.commandSlot).recmem = s.recmem ∧
    (s.commandSlot).settings = s.settings ∧ (s.commandSlot).stored = s.stored ∧
    (s.commandSlot).identity = s.identity ∧ (s.commandSlot).link = s.link ∧
    (s.commandSlot).pending = s.pending := by
  and_intros <;> rfl

@[simp] theorem State.startSlot_fields (s : State) (n : Nat) :
    (s.startSlot n).warn = { s.warn with slot := n, slotAt := s.ticks } ∧
    (s.startSlot n).powered = s.powered ∧ (s.startSlot n).ticks = s.ticks ∧
    (s.startSlot n).time = s.time ∧ (s.startSlot n).lock = s.lock ∧
    (s.startSlot n).float = s.float ∧ (s.startSlot n).travel = s.travel ∧
    (s.startSlot n).reel = s.reel ∧ (s.startSlot n).index = s.index ∧
    (s.startSlot n).rotor = s.rotor ∧ (s.startSlot n).press = s.press ∧
    (s.startSlot n).contacts = s.contacts ∧ (s.startSlot n).stage = s.stage ∧
    (s.startSlot n).samp = s.samp ∧ (s.startSlot n).history = s.history ∧
    (s.startSlot n).rating = s.rating ∧ (s.startSlot n).drive = s.drive ∧
    (s.startSlot n).plan = s.plan ∧ (s.startSlot n).flash = s.flash ∧ (s.startSlot n).run = s.run ∧
    (s.startSlot n).marker = s.marker ∧ (s.startSlot n).recmem = s.recmem ∧
    (s.startSlot n).settings = s.settings ∧ (s.startSlot n).stored = s.stored ∧
    (s.startSlot n).identity = s.identity ∧ (s.startSlot n).link = s.link ∧
    (s.startSlot n).pending = s.pending := by
  and_intros <;> rfl

@[simp] theorem State.countSecond_fields (s : State) :
    (s.countSecond).time = s.time.second ∧ (s.countSecond).powered = s.powered ∧ (s.countSecond).ticks = s.ticks ∧
    (s.countSecond).lock = s.lock ∧ (s.countSecond).float = s.float ∧ (s.countSecond).travel = s.travel ∧
    (s.countSecond).reel = s.reel ∧ (s.countSecond).index = s.index ∧ (s.countSecond).rotor = s.rotor ∧
    (s.countSecond).press = s.press ∧ (s.countSecond).contacts = s.contacts ∧ (s.countSecond).outs = s.outs ∧
    (s.countSecond).stage = s.stage ∧ (s.countSecond).samp = s.samp ∧ (s.countSecond).history = s.history ∧
    (s.countSecond).rating = s.rating ∧ (s.countSecond).warn = s.warn ∧ (s.countSecond).drive = s.drive ∧
    (s.countSecond).plan = s.plan ∧ (s.countSecond).flash = s.flash ∧ (s.countSecond).run = s.run ∧
    (s.countSecond).marker = s.marker ∧ (s.countSecond).recmem = s.recmem ∧
    (s.countSecond).settings = s.settings ∧ (s.countSecond).stored = s.stored ∧
    (s.countSecond).identity = s.identity ∧ (s.countSecond).link = s.link ∧ (s.countSecond).pending = s.pending := by
  and_intros <;> rfl

@[simp] theorem State.locks_fields (s : State) :
    (s.locks).lock = .locked ∧ (s.locks).powered = s.powered ∧ (s.locks).ticks = s.ticks ∧
    (s.locks).time = s.time ∧ (s.locks).float = s.float ∧ (s.locks).travel = s.travel ∧
    (s.locks).reel = s.reel ∧ (s.locks).index = s.index ∧ (s.locks).rotor = s.rotor ∧
    (s.locks).press = s.press ∧ (s.locks).contacts = s.contacts ∧ (s.locks).outs = s.outs ∧
    (s.locks).stage = s.stage ∧ (s.locks).samp = s.samp ∧ (s.locks).history = s.history ∧
    (s.locks).rating = s.rating ∧ (s.locks).warn = s.warn ∧ (s.locks).drive = s.drive ∧
    (s.locks).plan = s.plan ∧ (s.locks).flash = s.flash ∧ (s.locks).run = s.run ∧
    (s.locks).marker = s.marker ∧ (s.locks).recmem = s.recmem ∧ (s.locks).settings = s.settings ∧
    (s.locks).stored = s.stored ∧ (s.locks).identity = s.identity ∧ (s.locks).link = s.link ∧
    (s.locks).pending = s.pending := by
  and_intros <;> rfl

@[simp] theorem State.hunt_fields (s : State) :
    (s.hunt).link = { s.link with rx := .hunt } ∧ (s.hunt).powered = s.powered ∧
    (s.hunt).ticks = s.ticks ∧ (s.hunt).time = s.time ∧ (s.hunt).lock = s.lock ∧
    (s.hunt).float = s.float ∧ (s.hunt).travel = s.travel ∧ (s.hunt).reel = s.reel ∧
    (s.hunt).index = s.index ∧ (s.hunt).rotor = s.rotor ∧ (s.hunt).press = s.press ∧
    (s.hunt).contacts = s.contacts ∧ (s.hunt).outs = s.outs ∧ (s.hunt).stage = s.stage ∧
    (s.hunt).samp = s.samp ∧ (s.hunt).history = s.history ∧ (s.hunt).rating = s.rating ∧
    (s.hunt).warn = s.warn ∧ (s.hunt).drive = s.drive ∧ (s.hunt).plan = s.plan ∧
    (s.hunt).flash = s.flash ∧ (s.hunt).run = s.run ∧ (s.hunt).marker = s.marker ∧
    (s.hunt).recmem = s.recmem ∧ (s.hunt).settings = s.settings ∧ (s.hunt).stored = s.stored ∧
    (s.hunt).identity = s.identity ∧ (s.hunt).pending = s.pending := by
  and_intros <;> rfl

@[simp] theorem State.setRx_fields (s : State) (r : Receiver) :
    (s.setRx r).link = { s.link with rx := r } ∧ (s.setRx r).powered = s.powered ∧
    (s.setRx r).ticks = s.ticks ∧ (s.setRx r).time = s.time ∧ (s.setRx r).lock = s.lock ∧
    (s.setRx r).float = s.float ∧ (s.setRx r).travel = s.travel ∧ (s.setRx r).reel = s.reel ∧
    (s.setRx r).index = s.index ∧ (s.setRx r).rotor = s.rotor ∧ (s.setRx r).press = s.press ∧
    (s.setRx r).contacts = s.contacts ∧ (s.setRx r).outs = s.outs ∧ (s.setRx r).stage = s.stage ∧
    (s.setRx r).samp = s.samp ∧ (s.setRx r).history = s.history ∧ (s.setRx r).rating = s.rating ∧
    (s.setRx r).warn = s.warn ∧ (s.setRx r).drive = s.drive ∧ (s.setRx r).plan = s.plan ∧
    (s.setRx r).flash = s.flash ∧ (s.setRx r).run = s.run ∧ (s.setRx r).marker = s.marker ∧
    (s.setRx r).recmem = s.recmem ∧ (s.setRx r).settings = s.settings ∧
    (s.setRx r).stored = s.stored ∧ (s.setRx r).identity = s.identity ∧
    (s.setRx r).pending = s.pending := by
  and_intros <;> rfl

@[simp] theorem State.rotorPulse_fields (s : State) :
    (s.rotorPulse).rotor = s.rotor.edge s.ticks ∧ (s.rotorPulse).powered = s.powered ∧
    (s.rotorPulse).ticks = s.ticks ∧ (s.rotorPulse).time = s.time ∧ (s.rotorPulse).lock = s.lock ∧
    (s.rotorPulse).float = s.float ∧ (s.rotorPulse).travel = s.travel ∧
    (s.rotorPulse).reel = s.reel ∧ (s.rotorPulse).index = s.index ∧
    (s.rotorPulse).press = s.press ∧ (s.rotorPulse).contacts = s.contacts ∧
    (s.rotorPulse).outs = s.outs ∧ (s.rotorPulse).stage = s.stage ∧ (s.rotorPulse).samp = s.samp ∧
    (s.rotorPulse).history = s.history ∧ (s.rotorPulse).rating = s.rating ∧
    (s.rotorPulse).warn = s.warn ∧ (s.rotorPulse).drive = s.drive ∧ (s.rotorPulse).plan = s.plan ∧
    (s.rotorPulse).flash = s.flash ∧ (s.rotorPulse).run = s.run ∧
    (s.rotorPulse).marker = s.marker ∧ (s.rotorPulse).recmem = s.recmem ∧
    (s.rotorPulse).settings = s.settings ∧ (s.rotorPulse).stored = s.stored ∧
    (s.rotorPulse).identity = s.identity ∧ (s.rotorPulse).link = s.link ∧
    (s.rotorPulse).pending = s.pending := by
  and_intros <;> rfl

@[simp] theorem State.losePower_fields (s : State) :
    (s.losePower).powered = false ∧ (s.losePower).outs = .off ∧ (s.losePower).ticks = s.ticks ∧
    (s.losePower).time = s.time ∧ (s.losePower).lock = s.lock ∧ (s.losePower).float = s.float ∧
    (s.losePower).travel = s.travel ∧ (s.losePower).reel = s.reel ∧ (s.losePower).index = s.index ∧
    (s.losePower).rotor = s.rotor ∧ (s.losePower).press = s.press ∧
    (s.losePower).contacts = s.contacts ∧ (s.losePower).stage = s.stage ∧
    (s.losePower).samp = s.samp ∧ (s.losePower).history = s.history ∧
    (s.losePower).rating = s.rating ∧ (s.losePower).warn = s.warn ∧ (s.losePower).drive = s.drive ∧
    (s.losePower).plan = s.plan ∧ (s.losePower).flash = s.flash ∧ (s.losePower).run = s.run ∧
    (s.losePower).marker = s.marker ∧ (s.losePower).recmem = s.recmem ∧
    (s.losePower).settings = s.settings ∧ (s.losePower).stored = s.stored ∧
    (s.losePower).identity = s.identity ∧ (s.losePower).link = s.link ∧
    (s.losePower).pending = s.pending := by
  and_intros <;> rfl

@[simp] theorem State.replied_fields (s : State) (k g : Byte) (c : ReplyCode) (b : ReplyBody) :
    (s.replied k g c b).link = { s.link with rx := .hunt, reply := some { kind := k, tag := g, code := c, body := b } } ∧
    (s.replied k g c b).powered = s.powered ∧ (s.replied k g c b).ticks = s.ticks ∧
    (s.replied k g c b).time = s.time ∧ (s.replied k g c b).lock = s.lock ∧
    (s.replied k g c b).float = s.float ∧ (s.replied k g c b).travel = s.travel ∧
    (s.replied k g c b).reel = s.reel ∧ (s.replied k g c b).index = s.index ∧
    (s.replied k g c b).rotor = s.rotor ∧ (s.replied k g c b).press = s.press ∧
    (s.replied k g c b).contacts = s.contacts ∧ (s.replied k g c b).outs = s.outs ∧
    (s.replied k g c b).stage = s.stage ∧ (s.replied k g c b).samp = s.samp ∧
    (s.replied k g c b).history = s.history ∧ (s.replied k g c b).rating = s.rating ∧
    (s.replied k g c b).warn = s.warn ∧ (s.replied k g c b).drive = s.drive ∧
    (s.replied k g c b).plan = s.plan ∧ (s.replied k g c b).flash = s.flash ∧
    (s.replied k g c b).run = s.run ∧ (s.replied k g c b).marker = s.marker ∧
    (s.replied k g c b).recmem = s.recmem ∧ (s.replied k g c b).settings = s.settings ∧
    (s.replied k g c b).stored = s.stored ∧ (s.replied k g c b).identity = s.identity ∧
    (s.replied k g c b).pending = s.pending := by
  and_intros <;> rfl

@[simp] theorem State.raise_fields (s : State) (n : Notice) :
    (s.raise n).powered = s.powered ∧ (s.raise n).ticks = s.ticks ∧ (s.raise n).time = s.time ∧
    (s.raise n).lock = s.lock ∧ (s.raise n).float = s.float ∧ (s.raise n).travel = s.travel ∧
    (s.raise n).reel = s.reel ∧ (s.raise n).index = s.index ∧ (s.raise n).rotor = s.rotor ∧
    (s.raise n).press = s.press ∧ (s.raise n).contacts = s.contacts ∧ (s.raise n).stage = s.stage ∧
    (s.raise n).samp = s.samp ∧ (s.raise n).history = s.history ∧ (s.raise n).rating = s.rating ∧
    (s.raise n).warn = s.warn ∧ (s.raise n).drive = s.drive ∧ (s.raise n).plan = s.plan ∧
    (s.raise n).flash = s.flash ∧ (s.raise n).run = s.run ∧ (s.raise n).marker = s.marker ∧
    (s.raise n).recmem = s.recmem ∧ (s.raise n).settings = s.settings ∧
    (s.raise n).stored = s.stored ∧ (s.raise n).identity = s.identity ∧
    (s.raise n).pending = s.pending := by
  simp only [State.raise]
  split <;> simp

@[simp] theorem State.silence_fields (s : State) :
    (s.silence).powered = s.powered ∧ (s.silence).ticks = s.ticks ∧ (s.silence).time = s.time ∧
    (s.silence).lock = s.lock ∧ (s.silence).float = s.float ∧ (s.silence).travel = s.travel ∧
    (s.silence).reel = s.reel ∧ (s.silence).index = s.index ∧ (s.silence).rotor = s.rotor ∧
    (s.silence).press = s.press ∧ (s.silence).contacts = s.contacts ∧ (s.silence).stage = s.stage ∧
    (s.silence).samp = s.samp ∧ (s.silence).history = s.history ∧ (s.silence).rating = s.rating ∧
    (s.silence).warn = s.warn ∧ (s.silence).drive = s.drive ∧ (s.silence).plan = s.plan ∧
    (s.silence).flash = s.flash ∧ (s.silence).run = s.run ∧ (s.silence).marker = s.marker ∧
    (s.silence).recmem = s.recmem ∧ (s.silence).settings = s.settings ∧
    (s.silence).stored = s.stored ∧ (s.silence).identity = s.identity ∧ (s.silence).link = s.link ∧
    (s.silence).pending = s.pending := by
  simp only [State.silence]
  split <;> simp

@[simp] theorem State.setReferenced_fields (s : State) (ax : Axis) (r : Bool) :
    (s.setReferenced ax r).powered = s.powered ∧ (s.setReferenced ax r).ticks = s.ticks ∧
    (s.setReferenced ax r).time = s.time ∧ (s.setReferenced ax r).lock = s.lock ∧
    (s.setReferenced ax r).float = s.float ∧ (s.setReferenced ax r).travel = s.travel ∧
    (s.setReferenced ax r).reel = s.reel ∧ (s.setReferenced ax r).index = s.index ∧
    (s.setReferenced ax r).rotor = s.rotor ∧ (s.setReferenced ax r).press = s.press ∧
    (s.setReferenced ax r).contacts = s.contacts ∧ (s.setReferenced ax r).outs = s.outs ∧
    (s.setReferenced ax r).stage = s.stage ∧ (s.setReferenced ax r).samp = s.samp ∧
    (s.setReferenced ax r).history = s.history ∧ (s.setReferenced ax r).rating = s.rating ∧
    (s.setReferenced ax r).warn = s.warn ∧ (s.setReferenced ax r).plan = s.plan ∧
    (s.setReferenced ax r).flash = s.flash ∧ (s.setReferenced ax r).run = s.run ∧
    (s.setReferenced ax r).marker = s.marker ∧ (s.setReferenced ax r).recmem = s.recmem ∧
    (s.setReferenced ax r).settings = s.settings ∧ (s.setReferenced ax r).stored = s.stored ∧
    (s.setReferenced ax r).identity = s.identity ∧ (s.setReferenced ax r).link = s.link ∧
    (s.setReferenced ax r).pending = s.pending := by
  cases ax <;> simp [State.setReferenced]

@[simp] theorem State.updateResult_fields (s : State) (f : RunResult → RunResult) :
    (s.updateResult f).powered = s.powered ∧ (s.updateResult f).ticks = s.ticks ∧
    (s.updateResult f).time = s.time ∧ (s.updateResult f).lock = s.lock ∧
    (s.updateResult f).float = s.float ∧ (s.updateResult f).travel = s.travel ∧
    (s.updateResult f).reel = s.reel ∧ (s.updateResult f).index = s.index ∧
    (s.updateResult f).rotor = s.rotor ∧ (s.updateResult f).press = s.press ∧
    (s.updateResult f).contacts = s.contacts ∧ (s.updateResult f).outs = s.outs ∧
    (s.updateResult f).stage = s.stage ∧ (s.updateResult f).samp = s.samp ∧
    (s.updateResult f).history = s.history ∧ (s.updateResult f).rating = s.rating ∧
    (s.updateResult f).warn = s.warn ∧ (s.updateResult f).drive = s.drive ∧
    (s.updateResult f).plan = s.plan ∧ (s.updateResult f).flash = s.flash ∧
    (s.updateResult f).run = s.run ∧ (s.updateResult f).marker = s.marker ∧
    (s.updateResult f).settings = s.settings ∧ (s.updateResult f).stored = s.stored ∧
    (s.updateResult f).identity = s.identity ∧ (s.updateResult f).link = s.link ∧
    (s.updateResult f).pending = s.pending := by
  simp only [State.updateResult]
  split <;> simp

@[simp] theorem State.refreshPeriod_fields (s : State) :
    (s.refreshPeriod).powered = s.powered ∧ (s.refreshPeriod).ticks = s.ticks ∧
    (s.refreshPeriod).time = s.time ∧ (s.refreshPeriod).lock = s.lock ∧
    (s.refreshPeriod).float = s.float ∧ (s.refreshPeriod).travel = s.travel ∧
    (s.refreshPeriod).reel = s.reel ∧ (s.refreshPeriod).index = s.index ∧
    (s.refreshPeriod).rotor = s.rotor ∧ (s.refreshPeriod).press = s.press ∧
    (s.refreshPeriod).contacts = s.contacts ∧ (s.refreshPeriod).outs = s.outs ∧
    (s.refreshPeriod).stage = s.stage ∧ (s.refreshPeriod).history = s.history ∧
    (s.refreshPeriod).rating = s.rating ∧ (s.refreshPeriod).warn = s.warn ∧
    (s.refreshPeriod).drive = s.drive ∧ (s.refreshPeriod).plan = s.plan ∧
    (s.refreshPeriod).flash = s.flash ∧ (s.refreshPeriod).run = s.run ∧
    (s.refreshPeriod).marker = s.marker ∧ (s.refreshPeriod).recmem = s.recmem ∧
    (s.refreshPeriod).settings = s.settings ∧ (s.refreshPeriod).stored = s.stored ∧
    (s.refreshPeriod).identity = s.identity ∧ (s.refreshPeriod).link = s.link ∧
    (s.refreshPeriod).pending = s.pending := by
  simp only [State.refreshPeriod]
  split <;> simp

end Sys2Proof.Machine
end

