-- ==== Sys2Proof/Laws/Frames.lean ====
section
/-! SUPPORT. What the drive and the run leave: every operation of the two, with the notices it raises,
touches their own parts of the state and no other. -/

namespace Sys2Proof.Machine

/-- From s to t nothing has changed but what the drive and the run write: the channels TRAVEL and REEL,
ROTOR, the outputs, the drive, the run, its marker, the result slots and the notice queue. -/
structure RunLeaves (s t : State) : Prop where
  powered : t.powered = s.powered
  ticks : t.ticks = s.ticks
  time : t.time = s.time
  lock : t.lock = s.lock
  float : t.float = s.float
  index : t.index = s.index
  press : t.press = s.press
  contacts : t.contacts = s.contacts
  stage : t.stage = s.stage
  samp : t.samp = s.samp
  history : t.history = s.history
  rating : t.rating = s.rating
  warn : t.warn = s.warn
  plan : t.plan = s.plan
  flash : t.flash = s.flash
  settings : t.settings = s.settings
  stored : t.stored = s.stored
  identity : t.identity = s.identity
  pending : t.pending = s.pending
  recs : t.recmem.recs = s.recmem.recs
  next : t.recmem.next = s.recmem.next
  cursor : t.recmem.cursor = s.recmem.cursor
  overrun : t.recmem.overrun = s.recmem.overrun
  slotCount : t.recmem.slots.length = s.recmem.slots.length
  rx : t.link.rx = s.link.rx
  reply : t.link.reply = s.link.reply
  restart : t.link.restart = s.link.restart
  resetItem : t.link.resetItem = s.link.resetItem
  siren : t.outs.siren = s.outs.siren
  beacon : t.outs.beacon = s.outs.beacon

namespace RunLeaves

theorem refl (s : State) : RunLeaves s s := by constructor <;> rfl

theorem trans {s t u : State} (h : RunLeaves s t) (k : RunLeaves t u) : RunLeaves s u := by
  obtain ⟨h1, h2, h3, h4, h5, h6, h7, h8, h9, h10, h11, h12, h13, h14, h15, h16, h17, h18, h19, h20,
    h21, h22, h23, h24, h25, h26, h27, h28, h29, h30⟩ := h
  obtain ⟨k1, k2, k3, k4, k5, k6, k7, k8, k9, k10, k11, k12, k13, k14, k15, k16, k17, k18, k19, k20,
    k21, k22, k23, k24, k25, k26, k27, k28, k29, k30⟩ := k
  exact ⟨k1.trans h1, k2.trans h2, k3.trans h3, k4.trans h4, k5.trans h5, k6.trans h6, k7.trans h7,
    k8.trans h8, k9.trans h9, k10.trans h10, k11.trans h11, k12.trans h12, k13.trans h13,
    k14.trans h14, k15.trans h15, k16.trans h16, k17.trans h17, k18.trans h18, k19.trans h19,
    k20.trans h20, k21.trans h21, k22.trans h22, k23.trans h23, k24.trans h24, k25.trans h25,
    k26.trans h26, k27.trans h27, k28.trans h28, k29.trans h29, k30.trans h30⟩

/-- What is so placed leaves a level and a setting as they were. -/
theorem level {s t : State} (h : RunLeaves s t) (i : Contact) : t.level i = s.level i := by
  simp [State.level, h.contacts]

theorem num {s t : State} (h : RunLeaves s t) (i : SettingId) : t.num i = s.num i := by
  simp [State.num, h.settings]

theorem nat {s t : State} (h : RunLeaves s t) (i : SettingId) : t.nat i = s.nat i := by
  simp [State.nat, h.settings]

theorem lockout {s t : State} (h : RunLeaves s t) : t.lockout = s.lockout := by
  simp [State.lockout, h.nat, h.warn]

theorem storm {s t : State} (h : RunLeaves s t) : t.storm = s.storm := by
  simp [State.storm, h.nat, h.warn]

/-! The updates. -/

theorem raise (s : State) (n : Notice) : RunLeaves s (s.raise n) := by
  unfold State.raise
  split <;> constructor <;> rfl

theorem setQuad (s : State) (ax : Axis) (q : Quad) : RunLeaves s (s.setQuad ax.chan q) := by
  cases ax <;> constructor <;> rfl

theorem setReferenced (s : State) (ax : Axis) (r : Bool) : RunLeaves s (s.setReferenced ax r) := by
  cases ax <;> constructor <;> rfl

theorem setMoving (s : State) (m : Move) : RunLeaves s (s.setMoving m) := by constructor <;> rfl

theorem setStopped (s : State) (d : DriveState) : RunLeaves s (s.setStopped d) := by
  constructor <;> rfl

theorem modRun (s : State) (f : RunUnit → RunUnit) : RunLeaves s (s.modRun f) := by
  constructor <;> rfl

theorem clearMarker (s : State) : RunLeaves s s.clearMarker := by constructor <;> rfl

theorem updateResult (s : State) (f : RunResult → RunResult) : RunLeaves s (s.updateResult f) := by
  unfold State.updateResult
  split
  · constructor <;> simp [RecordMemory.setSlot]
  · exact refl s

theorem setPhase (s : State) (p : Phase) : RunLeaves s (s.setPhase p) := by
  simp only [State.setPhase]
  split
  · exact modRun s _
  · exact (modRun s _).trans (raise _ _)

/-! The drive. -/

theorem axisCheck (s : State) (ax : Axis) : RunLeaves s (s.axisCheck ax).1 := by
  simp only [State.axisCheck]
  split
  · exact (setQuad s ax _).trans (setReferenced _ ax _)
  · exact setQuad s ax _

theorem referenceReel (s : State) : RunLeaves s s.referenceReel := by constructor <;> rfl

theorem referenceTravel (s : State) : RunLeaves s s.referenceTravel := by
  unfold State.referenceTravel
  split <;> constructor <;> rfl

theorem completeMove (s : State) (m : Move) : RunLeaves s (s.completeMove m).1 :=
  (setStopped s .idle).trans (axisCheck _ m.axis)

theorem meetStop (s : State) (m : Move) (o : MoveOutcome) (c : Option Contact) (p : Int) :
    RunLeaves s (s.meetStop m o c p).1 := by
  simp only [State.meetStop]
  split
  · exact completeMove s _
  · exact setStopped s _

theorem setFault (s : State) (f : FaultRecord) :
    RunLeaves s { s with drive := { s.drive with fault := some f } } := by constructor <;> rfl

theorem driveFault (s : State) (c : DriveFault) : RunLeaves s (s.driveFault c).1 := by
  simp only [State.driveFault]
  split
  · exact (setStopped s .faulted).trans (setFault _ _)
  · exact ((setStopped s .faulted).trans (setFault _ _)).trans (axisCheck _ _)

theorem stopMove (s : State) (r : StopReason) : RunLeaves s (s.stopMove r).1 := by
  simp only [State.stopMove]
  split
  · exact refl s
  · exact (setStopped s .idle).trans (axisCheck _ _)

theorem clearDrive (s : State) : RunLeaves s s.clearDrive := by
  unfold State.clearDrive
  split <;> constructor <;> rfl

theorem alreadyComplete {s : State} {ax : Axis} {k : MoveKind} {r : State × MoveOutcome × Option Contact}
    (h : s.alreadyComplete ax k = some r) : RunLeaves s r.1 := by
  revert h
  unfold State.alreadyComplete
  split
  · split
    · rintro ⟨⟩; exact refl s
    · nofun
  · split
    · rintro ⟨⟩
      dsimp only
      split
      · exact referenceReel s
      · exact refl s
    · split
      · rintro ⟨⟩; exact refl s
      · nofun
  · split
    · rintro ⟨⟩; exact referenceTravel s
    · nofun

theorem startMove (s : State) (r : MoveRequest) (c : Option CheckCause) (b : Bool) :
    RunLeaves s (s.startMove r c b).1 := by
  unfold State.startMove
  split
  · next h => exact alreadyComplete h
  · exact setMoving s _

theorem refuseFaulted (s : State) : RunLeaves s s.refuseFaulted :=
  (setStopped s .faulted).trans (setFault _ _)

theorem requestMove (s : State) (r : MoveRequest) : RunLeaves s (s.requestMove r).1 := by
  unfold State.requestMove
  split
  · exact refl s
  · split
    · exact refl s
    · exact refl s
    · exact refl s
    · split
      · exact refuseFaulted s
      · split
        · exact refl s
        · dsimp only
          split
          · exact axisCheck s _
          · split
            · exact axisCheck s _
            · exact (axisCheck s _).trans (startMove _ _ _ _)

theorem driveCount (s : State) (ax : Axis) : RunLeaves s (s.driveCount ax).1 := by
  unfold State.driveCount
  split
  · split
    · dsimp only
      split
      · exact meetStop s _ _ _ _
      · split
        · exact (setMoving s _).trans (driveFault _ _)
        · split
          · exact setMoving s _
          · exact setMoving s _
    · exact refl s
  · exact refl s

theorem edgeStop {s : State} {m : Move} {i : Contact} {level : Bool} {r : State × DriveReport}
    (h : s.edgeStop m i level = some r) : RunLeaves s r.1 := by
  revert h
  unfold State.edgeStop
  split
  · split
    · rintro ⟨⟩; exact meetStop s _ _ _ _
    · nofun
  · split
    · rintro ⟨⟩; exact meetStop s _ _ _ _
    · nofun
  · split
    · nofun
    · rintro ⟨⟩; exact (referenceReel s).trans (meetStop _ _ _ _ _)
  · split
    · rintro ⟨⟩; exact (referenceTravel s).trans (meetStop _ _ _ _ _)
    · nofun
  · nofun

theorem settleEdge (s : State) (m : Move) (i : Contact) (level : Bool) :
    RunLeaves s (s.settleEdge m i level) := by
  unfold State.settleEdge
  split
  · split
    · exact refl s
    · exact referenceReel s
  · split
    · exact referenceTravel s
    · exact refl s
  · exact refl s

theorem driveEdge (s : State) (i : Contact) (level : Bool) : RunLeaves s (s.driveEdge i level).1 := by
  unfold State.driveEdge
  split
  · split
    · exact driveFault s _
    · exact refl s
  · split
    · exact refl s
    · exact refl s
    · split
      · exact driveFault s _
      · exact settleEdge s _ _ _
    · split
      · exact driveFault s _
      · split
        · next h => exact edgeStop h
        · exact refl s

theorem driveStall (s : State) : RunLeaves s s.driveStall.1 := by
  unfold State.driveStall
  split
  · exact driveFault s _
  · exact refl s

theorem driveSettled (s : State) : RunLeaves s s.driveSettled.1 := by
  unfold State.driveSettled
  split
  · exact completeMove s _
  · exact refl s

theorem axisMeaning (s : State) (ax : Axis) : RunLeaves s (s.axisMeaning ax).1 := by
  simp only [State.axisMeaning]
  split
  · split
    · exact (setReferenced s ax _).trans (stopMove _ _)
    · exact setReferenced s ax _
  · exact setReferenced s ax _

/-! The run. -/

theorem runEnded (s : State) : RunLeaves s s.runEnded := by
  unfold State.runEnded
  dsimp only
  split
  · exact (modRun s _).trans (raise _ _)
  · exact modRun s _

theorem appendVertical (s : State) (v : VertRecord) : RunLeaves s (s.appendVertical v) :=
  updateResult s _

theorem writeVertical (s : State) : RunLeaves s s.writeVertical := by
  unfold State.writeVertical
  split
  · dsimp only
    split
    · split
      · exact (appendVertical s _).trans (appendVertical _ _)
      · exact appendVertical s _
    · exact appendVertical s _
  · exact refl s

theorem endRun (s : State) (b : Bool) : RunLeaves s (s.endRun b) :=
  ((updateResult s _).trans (clearMarker _)).trans (runEnded _)

theorem endAborted (s : State) (b : Bool) : RunLeaves s (s.endAborted b) :=
  ((updateResult s _).trans (clearMarker _)).trans (runEnded _)

theorem dropExposure (s : State) : RunLeaves s s.dropExposure := by
  unfold State.dropExposure
  split <;> constructor <;> rfl

theorem interrupt (s : State) : RunLeaves s s.interrupt := by
  simp only [State.interrupt]
  split
  · exact ((stopMove s _).trans (dropExposure _)).trans (modRun _ _)
  · exact (dropExposure s).trans (modRun _ _)

theorem ask (s : State) (ax : Axis) (k : MoveKind) : RunLeaves s (s.ask ax k).1 := by
  have h := requestMove s { requester := .run, axis := ax, kind := k, speed := .auto }
  unfold State.ask
  split <;> next e => rw [e] at h; exact h

theorem askContact (s : State) (c : Contact) : RunLeaves s (s.askContact c).1 := ask s _ _

theorem modPoint (s : State) (f : Point → Point) : RunLeaves s (s.modPoint f) := modRun s _

theorem failPoint (s : State) (f : PointFailure) : RunLeaves s (s.failPoint f) :=
  (modPoint s _).trans (modRun _ _)

theorem enterExpose (s : State) : RunLeaves s s.enterExpose := (setPhase s _).trans (modRun _ _)

theorem failVertical (s : State) (f : VerticalFailure) : RunLeaves s (s.failVertical f) :=
  modRun s _

theorem advance (s : State) : RunLeaves s s.advance.1 := modRun s fun r =>
  { r with current := r.current + 1, vertical := .start }

theorem sounded (s : State) (b : Int) : RunLeaves s (s.sounded b).1 := by
  unfold State.sounded
  dsimp only
  split <;> (dsimp only; exact modRun s _)

theorem soundCompleted (s : State) (c : Completion) : RunLeaves s (s.soundCompleted c).1 := by
  unfold State.soundCompleted
  split
  · split
    · exact (modRun s _).trans (askContact _ _)
    · exact failVertical s _
  · split
    · exact sounded s _
    · exact failVertical s _
  · exact refl s

theorem pointCompleted (s : State) (c : Completion) : RunLeaves s (s.pointCompleted c).1 := by
  unfold State.pointCompleted
  dsimp only
  split
  · exact (modPoint s _).trans (failPoint _ _)
  · split
    · exact ((modPoint s _).trans (modPoint _ _)).trans (enterExpose _)
    · exact (modPoint s _).trans (enterExpose _)

theorem phaseCompleted (s : State) (c : Completion) : RunLeaves s (s.phaseCompleted c).1 := by
  unfold State.phaseCompleted
  split
  · split <;> exact refl s
  · dsimp only; exact modRun s _
  · exact soundCompleted s c
  · exact pointCompleted s c
  · exact advance s
  · exact endRun s _
  · exact refl s
  · split
    · exact endAborted s _
    · exact refl s
  · exact refl s
  · exact refl s
  · exact refl s

theorem completedAction (s : State) (c : Completion) : RunLeaves s (s.completedAction c).1 := by
  unfold State.completedAction
  split
  · exact refl s
  · split
    · exact refl s
    · split
      · exact refl s
      · exact phaseCompleted s c

theorem faultAction (s : State) (c : MotionCause) : RunLeaves s (s.faultAction c).1 := by
  unfold State.faultAction
  dsimp only
  split
  · exact ((modRun s _).trans (modRun _ _)).trans (interrupt _)
  · split
    · dsimp only; exact (modRun s _).trans (modRun _ _)
    · exact (modRun s _).trans (endRun _ _)
    · exact (modRun s _).trans (endAborted _ _)
    · exact refl s

theorem runAct (s : State) (a : RunAction) : RunLeaves s (s.runAct a).1 := by
  cases a with
  | starting =>
    simp only [State.runAct]
    split
    · exact (modRun s _).trans (setPhase _ _)
    · exact ((modRun s _).trans (setPhase _ _)).trans (askContact _ _)
  | startHome =>
    simp only [State.runAct]
    split
    · exact refl s
    · exact ask s _ _
  | startNext => exact refl s
  | travel => exact (setPhase s _).trans (ask _ _ _)
  | sound => exact (setPhase s _).trans (askContact _ _)
  | setPoint => exact (setPhase s _).trans (ask _ _ _)
  | retract => exact ((writeVertical s).trans (setPhase _ _)).trans (askContact _ _)
  | home => exact (setPhase s _).trans (ask _ _ _)
  | holdRetract => exact (setPhase s _).trans (askContact _ _)
  | hold => simp only [State.runAct]; exact (setPhase s _).trans (modRun _ _)
  | abortHome =>
    simp only [State.runAct]
    split
    · exact setPhase s _
    · exact (setPhase s _).trans (askContact _ _)
  | abortTravel => exact ask s _ _
  | completed c => exact completedAction s c
  | fault c => exact faultAction s c

theorem runLoop (fuel : Nat) (s : State) (a : RunAction) : RunLeaves s (runLoop fuel s a) := by
  induction fuel generalizing s a with
  | zero => exact refl s
  | succ n ih =>
    have h := runAct s a
    unfold Machine.runLoop
    split
    · next e => rw [e] at h; exact h
    · next e => rw [e] at h; exact h.trans (ih _ _)

theorem runDo (s : State) (a : RunAction) : RunLeaves s (s.runDo a) := runLoop 1000 s a

theorem report (r : State × DriveReport) : RunLeaves r.1 (State.report r) := by
  unfold State.report
  split
  · exact refl _
  · exact runDo _ _
  · exact raise _ _
  · exact runDo _ _
  · exact raise _ _
  · exact raise _ _

theorem addHold (s : State) (f : HoldCauses → HoldCauses) : RunLeaves s (s.addHold f) := by
  simp only [State.addHold]
  split
  · exact ((modRun s _).trans (interrupt _)).trans (runDo _ _)
  · split
    · exact modRun s _
    · exact refl s

theorem lockoutChanged (s : State) (b : Bool) : RunLeaves s (s.lockoutChanged b) := by
  unfold State.lockoutChanged
  split
  · exact addHold s _
  · dsimp only
    split
    · exact modRun s _
    · split
      · exact (modRun s _).trans (runDo _ _)
      · exact modRun s _
    · exact refl s

theorem runSourceChange (s : State) : RunLeaves s s.runSourceChange := by
  unfold State.runSourceChange
  split
  · dsimp only
    split
    · exact (dropExposure s).trans (modRun _ _)
    · exact ((dropExposure s).trans (failPoint _ _)).trans (runDo _ _)
  · exact refl s

theorem startExposure (s : State) : RunLeaves s s.startExposure := by
  unfold State.startExposure
  split <;> constructor <;> rfl

theorem stopRotor (s : State) : RunLeaves s { s with rotor := s.rotor.stop } := by
  constructor <;> rfl

theorem endExposure (s : State) : RunLeaves s s.endExposure := by
  unfold State.endExposure
  split
  · dsimp only
    have h := (stopRotor s).trans
      (modPoint { s with rotor := s.rotor.stop } fun p =>
        { p with repeats := p.repeats ++ [{ count := s.rotor.count, saturated := s.rotor.saturated }] })
    split
    · exact h.trans (modRun _ _)
    · split
      · exact ((h.trans (modRun _ _)).trans (modRun _ _)).trans (runDo _ _)
      · exact (h.trans (modRun _ _)).trans (runDo _ _)
  · exact refl s

theorem runEdge (s : State) (i : Contact) (level : Bool) : RunLeaves s (s.runEdge i level) := by
  unfold State.runEdge
  split
  · exact runDo s _
  · exact refl s

theorem abortHeld (s : State) (r : AbortReason) : RunLeaves s (s.abortHeld r) := by
  simp only [State.abortHeld]
  split
  · exact (modRun s _).trans (endAborted _ _)
  · exact (modRun s _).trans (runDo _ _)

theorem abortActive (s : State) : RunLeaves s s.abortActive :=
  ((interrupt s).trans (modRun _ _)).trans (runDo _ _)

theorem holdExpired (s : State) : RunLeaves s s.holdExpired := by
  unfold State.holdExpired
  split
  · exact abortHeld s _
  · exact refl s

end RunLeaves

end Sys2Proof.Machine
end

