-- ==== Sys2Proof/Laws/Events.lean ====
section
/-! SUPPORT. What the events leave: neither the clock, nor the field wiring, nor a sample touches the
tables, the plans, the flash, the settings, the identity or the queue of commands. -/

namespace Sys2Proof.Machine

/-- From s to t nothing has changed of what only requests, completions of flash operations and resets
write. -/
structure EventLeaves (s t : State) : Prop where
  powered : t.powered = s.powered
  rating : t.rating = s.rating
  plan : t.plan = s.plan
  flash : t.flash = s.flash
  settings : t.settings = s.settings
  stored : t.stored = s.stored
  identity : t.identity = s.identity
  pending : t.pending = s.pending
  slotCount : t.recmem.slots.length = s.recmem.slots.length
  reply : t.link.reply = s.link.reply
  restart : t.link.restart = s.link.restart
  resetItem : t.link.resetItem = s.link.resetItem
  shaftOffset : t.stage.shaftOffset = s.stage.shaftOffset
  pressOffset : t.stage.pressOffset = s.stage.pressOffset

namespace EventLeaves

theorem refl (s : State) : EventLeaves s s := by constructor <;> rfl

theorem trans {s t u : State} (h : EventLeaves s t) (k : EventLeaves t u) : EventLeaves s u := by
  obtain ⟨h1, h2, h3, h4, h5, h6, h7, h8, h9, h10, h11, h12, h13, h14⟩ := h
  obtain ⟨k1, k2, k3, k4, k5, k6, k7, k8, k9, k10, k11, k12, k13, k14⟩ := k
  exact ⟨k1.trans h1, k2.trans h2, k3.trans h3, k4.trans h4, k5.trans h5, k6.trans h6, k7.trans h7,
    k8.trans h8, k9.trans h9, k10.trans h10, k11.trans h11, k12.trans h12, k13.trans h13,
    k14.trans h14⟩

/-- What the drive and the run leave is left by an event. -/
theorem ofRun {s t : State} (h : RunLeaves s t) : EventLeaves s t :=
  ⟨h.powered, h.rating, h.plan, h.flash, h.settings, h.stored, h.identity, h.pending, h.slotCount,
    h.reply, h.restart, h.resetItem, congrArg (·.shaftOffset) h.stage,
    congrArg (·.pressOffset) h.stage⟩

/-- Two ways on from one state, each of which leaves the same. -/
theorem ite {s t u : State} {p : Prop} [Decidable p] (h : EventLeaves s t) (k : EventLeaves s u) :
    EventLeaves s (if p then t else u) := by
  split
  · exact h
  · exact k

theorem raise (s : State) (n : Notice) : EventLeaves s (s.raise n) := ofRun (RunLeaves.raise s n)

/-! Warning (chapter 6). -/

theorem refreshPeriod (s : State) : EventLeaves s s.refreshPeriod := by
  simp only [State.refreshPeriod]
  split
  · exact refl s
  · constructor <;> rfl

theorem startSlot (s : State) (n : Nat) : EventLeaves s (s.startSlot n) := by
  constructor <;> rfl

theorem setWarn (s : State) (u : WarningUnit) : EventLeaves s { s with warn := u } := by
  constructor <;> rfl

theorem levelChanged (s : State) (old : Level) (c : LevelCause) (m : Kinds) (w : Option WarnSample) :
    EventLeaves s (s.levelChanged old c m w) := by
  simp only [State.levelChanged]
  split
  · exact refl s
  · refine trans ?_ (raise _ _)
    refine trans (trans (trans (setWarn s { s.warn with ack := s.warn.ack.lower s.warn.current })
      (startSlot _ 0)) (refreshPeriod _)) ?_
    split
    · exact refl _
    · exact ofRun (RunLeaves.lockoutChanged _ _)

theorem evaluate (s : State) (w : WarnSample) : EventLeaves s (s.evaluate w) := by
  unfold State.evaluate
  split
  · exact refl s
  · exact refl s
  · exact trans (setWarn s _) (levelChanged _ _ _ _ _)

theorem reconcile (s : State) (e : EnabledLevels) : EventLeaves s (s.reconcile e) := by
  simp only [State.reconcile]
  split
  · exact refl s
  · exact trans (setWarn s _) (levelChanged _ _ _ _ _)

/-! Samples (chapters 3 and 4). -/

theorem setShaft (s : State) (x : ShaftState) (a b : Option Int) :
    EventLeaves s (s.setShaft x a b) := by
  have h : EventLeaves s { s with stage := { s.stage with shaft := x } } := by constructor <;> rfl
  simp only [State.setShaft]
  split
  · exact h
  · exact trans h (raise _ _)

theorem setPress (s : State) (x : PressState) (n : Nat) (a b : Option Int) :
    EventLeaves s (s.setPress x n a b) := by
  have h : EventLeaves s { s with stage := { s.stage with press := x, pressCount := n } } := by
    constructor <;> rfl
  simp only [State.setPress]
  split
  · exact h
  · exact trans h (raise _ _)

theorem setDisagree (s : State) (x : Bool) (n : Nat) (a b : Option Int) :
    EventLeaves s (s.setDisagree x n a b) := by
  have h : EventLeaves s { s with stage := { s.stage with disagree := x, disagreeCount := n } } := by
    constructor <;> rfl
  simp only [State.setDisagree]
  split
  · exact h
  · exact trans h (raise _ _)

theorem keepMeasurement (s : State) (o : Measurement) : EventLeaves s (s.keepMeasurement o) := by
  unfold State.keepMeasurement
  split <;> constructor <;> rfl

theorem evaluateDisagreement (s : State) (a b : Option Int) :
    EventLeaves s (s.evaluateDisagreement a b) := by
  unfold State.evaluateDisagreement
  split
  · exact setDisagree s _ _ _ _
  · exact refl s

theorem selectReported (s : State) (a b : Option Int) (m : Nat) :
    EventLeaves s (s.selectReported a b m) := by
  unfold State.selectReported
  constructor <;> rfl

theorem formStage (s : State) (f : Forming) (o : Measurement) :
    EventLeaves s (s.formStage f o).1 :=
  trans (trans (trans (trans (keepMeasurement s o) (setShaft _ _ _ _)) (setPress _ _ _ _ _))
    (evaluateDisagreement _ _ _)) (selectReported _ _ _ _)

theorem formRate (s : State) (f : Forming) (i : StageItems) : EventLeaves s (s.formRate f i) := by
  unfold State.formRate
  split <;> constructor <;> rfl

theorem writeInterval (s : State) (r : IntervalRecord) : EventLeaves s (s.writeInterval r) := by
  have h (m : RecordMemory) (e : m.slots = s.recmem.slots) :
      EventLeaves s { s with recmem := m } := by
    constructor <;> first | rfl | simp [e]
  simp only [State.writeInterval]
  split
  · refine trans (h _ ?_) (raise _ _); rfl
  · split
    · refine trans (h _ ?_) (raise _ _); rfl
    · exact h _ rfl

theorem setSamp (s : State) (p : Sampling) : EventLeaves s { s with samp := p } := by
  constructor <;> rfl

theorem formSample (s : State) (o : Measurement) : EventLeaves s (s.formSample o) := by
  unfold State.formSample
  split
  · exact refl s
  · exact trans (trans (trans (trans (formStage s _ o) (formRate _ _ _)) (evaluate _ _))
      (writeInterval _ _)) (setSamp _ _)

theorem setPressure (s : State) (p : Pressure) : EventLeaves s { s with press := p } := by
  constructor <;> rfl

theorem requestPressure (s : State) : EventLeaves s s.requestPressure := by
  unfold State.requestPressure
  split
  · exact setPressure s _
  · exact formSample s _

theorem gridInstant (s : State) : EventLeaves s s.gridInstant := by
  unfold State.gridInstant
  split
  · exact refl s
  · dsimp only
    split
    · exact setSamp s _
    · refine trans ?_ (requestPressure _)
      constructor <;> rfl

theorem failPressure (s : State) (c : PressCause) : EventLeaves s (s.failPressure c) := by
  unfold State.failPressure
  split
  · exact trans (setPressure s _) (formSample _ _)
  · exact refl s

theorem pressurePulse (s : State) (b : Nat) : EventLeaves s (s.pressurePulse b) := by
  unfold State.pressurePulse
  split
  · exact setPressure s _
  · split
    · exact refl s
    · exact trans (setPressure s _) (formSample _ _)

theorem pressureDone (s : State) (b : Nat) : EventLeaves s (s.pressureDone b) := by
  unfold State.pressureDone
  split
  · split
    · exact refl s
    · exact trans (setPressure s _) (formSample _ _)
  · exact refl s
  · exact refl s

/-! The clock (chapter 1). -/

theorem onMain {s : State} {f : State → State} (h : EventLeaves s (f s)) :
    EventLeaves s (s.onMain f) := ite h (refl s)

theorem setTime (s : State) (t : Timebase) (l : Lock) (k : Nat) :
    EventLeaves s { s with time := t, lock := l, ticks := k } := by
  constructor <;> rfl

theorem announce (s : State) : EventLeaves s s.announce := by
  unfold State.announce
  split
  · exact trans (failPressure s _) (ofRun (RunLeaves.runSourceChange _))
  · exact refl s

theorem changeSource (s : State) (t : Timebase) : EventLeaves s (s.changeSource t) :=
  trans (setTime s t _ s.ticks) (announce _)

theorem second (s : State) : EventLeaves s s.second :=
  trans (setTime s _ s.lock s.ticks) (onMain (gridInstant _))

theorem addTicks (s : State) (n : Nat) : EventLeaves s (s.addTicks n) :=
  ite (trans (setTime s _ s.lock s.ticks) (second _)) (setTime s _ s.lock s.ticks)

theorem closeWindow (s : State) (n : Nat) : EventLeaves s (s.closeWindow n) := by
  unfold State.closeWindow
  split
  · exact ite (trans (addTicks s _) (trans (changeSource _ _) (raise _ _)))
      (setTime s _ s.lock s.ticks)
  · exact ite (trans (changeSource s _) (raise _ _))
      (ite (trans (setTime s _ s.lock s.ticks) (raise _ _)) (setTime s _ s.lock s.ticks))
  · exact refl s

/-! The field wiring (chapter 2). -/

theorem setQuad (s : State) (ch : Chan) (q : Quad) : EventLeaves s (s.setQuad ch q) := by
  cases ch <;> constructor <;> rfl

theorem modContact (s : State) (i : Contact) (f : ContactLine → ContactLine) :
    EventLeaves s (s.modContact i f) := by
  constructor <;> rfl

theorem report (r : State × DriveReport) : EventLeaves r.1 (State.report r) :=
  ofRun (RunLeaves.report r)

theorem observePair (s : State) (ch : Chan) (a b : Bool) : EventLeaves s (s.observePair ch a b) := by
  unfold State.observePair
  dsimp only
  split
  · exact setQuad s ch _
  · split
    · exact trans (setQuad s ch _) (trans (ofRun (RunLeaves.driveCount _ _)) (report _))
    · exact setQuad s ch _

theorem capture (s : State) (i : Contact) (b : Bool) : EventLeaves s (s.capture i b) := by
  unfold State.capture
  dsimp only
  split
  · split
    · exact trans (modContact s i _) (raise _ _)
    · exact modContact s i _
  · exact refl s

theorem contactEdge (s : State) (i : Contact) (b : Bool) : EventLeaves s (s.contactEdge i b) := by
  unfold State.contactEdge
  dsimp only
  refine trans ?_ (capture _ i b)
  split
  · exact trans (modContact s i _) (trans (trans (ofRun (RunLeaves.driveEdge _ _ _)) (report _))
      (ofRun (RunLeaves.runEdge _ _ _)))
  · exact modContact s i _

theorem rawChange (s : State) (i : Contact) (b : Bool) : EventLeaves s (s.rawChange i b) :=
  ite (refl s)
    (ite (modContact s i _)
      (ite (trans (modContact s i _) (modContact _ i _))
        (ite (trans (modContact s i _) (contactEdge _ i b))
          (trans (modContact s i _) (modContact _ i _)))))

theorem debounced (s : State) (i : Contact) : EventLeaves s (s.debounced i) := by
  unfold State.debounced
  split
  · exact contactEdge s i _
  · exact refl s

theorem debounceIfDue (s : State) (i : Contact) : EventLeaves s (s.debounceIfDue i) := by
  unfold State.debounceIfDue
  split
  · exact ite (debounced s i) (refl s)
  · exact refl s

theorem debounceAll (l : List Contact) (s : State) :
    EventLeaves s (l.foldl State.debounceIfDue s) := by
  induction l generalizing s with
  | nil => exact refl s
  | cons i l ih => exact trans (debounceIfDue s i) (ih _)

/-! The tick. -/

theorem relockIfDue (s : State) : EventLeaves s s.relockIfDue := by
  unfold State.relockIfDue
  split
  · exact ite (by constructor <;> rfl) (refl s)
  · exact refl s

theorem pressureIfDue (s : State) : EventLeaves s s.pressureIfDue := by
  simp only [State.pressureIfDue]
  split
  · exact ite (trans (setPressure s _) (failPressure _ _)) (setPressure s _)
  · exact setPressure s _

theorem settleIfDue (s : State) : EventLeaves s s.settleIfDue := by
  unfold State.settleIfDue
  split
  · exact ite (trans (ofRun (RunLeaves.driveSettled s)) (report _)) (refl s)
  · exact refl s

theorem stallIfDue (s : State) : EventLeaves s s.stallIfDue := by
  unfold State.stallIfDue
  split
  · exact ite (trans (ofRun (RunLeaves.driveStall s)) (report _)) (refl s)
  · exact refl s

theorem exposureIfDue (s : State) : EventLeaves s s.exposureIfDue := by
  simp only [State.exposureIfDue]
  split
  · exact ite (ofRun (RunLeaves.endExposure s)) (refl s)
  · exact refl s

theorem holdIfDue (s : State) : EventLeaves s s.holdIfDue := by
  unfold State.holdIfDue
  split
  · exact ite (ofRun (RunLeaves.holdExpired s)) (refl s)
  · exact refl s

theorem slotIfDue (s : State) : EventLeaves s s.slotIfDue := by
  unfold State.slotIfDue
  exact ite (startSlot s _) (refl s)

theorem frameIfDue (s : State) : EventLeaves s s.frameIfDue := by
  unfold State.frameIfDue
  split
  · exact ite (by constructor <;> rfl) (refl s)
  · exact refl s

theorem timersDue (s : State) : EventLeaves s s.timersDue :=
  trans (trans (trans (trans (trans (trans (trans (trans (trans
    (relockIfDue s) (pressureIfDue _)) (debounceAll allContacts _)) (settleIfDue _)) (stallIfDue _))
    (exposureIfDue _)) (ofRun (RunLeaves.startExposure _))) (holdIfDue _)) (slotIfDue _))
    (frameIfDue _)

theorem countTick (s : State) : EventLeaves s s.countTick :=
  trans (setTime s s.time s.lock _) (addTicks _ 1)

theorem tick (s : State) : EventLeaves s s.tick := trans (countTick s) (onMain (timersDue _))

theorem tickBy (n : Nat) (s : State) : EventLeaves s (s.tickBy n) := by
  induction n generalizing s with
  | zero => exact refl s
  | succ n ih => exact trans (tick s) (ih _)

end EventLeaves

end Sys2Proof.Machine
end

