-- ==== Sys2Proof/Laws/Ops.lean ====
section
/-! SUPPORT. What the shared operations do: access by name, the notice queue, settings, rounding,
and requests served. -/

namespace Sys2Proof.Machine

open Sys2Proof.Config

/-! Access by name. -/

@[simp] theorem Contacts.get_set_same (c : Contacts) (i : Contact) (l : ContactLine) :
    (c.set i l).get i = l := by cases i <;> rfl

@[simp] theorem Contacts.get_set_ne (c : Contacts) {i j : Contact} (l : ContactLine) (h : j ≠ i) :
    (c.set i l).get j = c.get j := by
  cases i <;> cases j <;> first | rfl | exact absurd rfl h

@[simp] theorem Contacts.get_map (c : Contacts) (f : Contact → ContactLine → ContactLine)
    (i : Contact) : (c.map f).get i = f i (c.get i) := by cases i <;> rfl

theorem Contacts.ext_get {c d : Contacts} (h : ∀ i, c.get i = d.get i) : c = d := by
  cases c; cases d
  simp only [Contacts.mk.injEq]
  exact ⟨h .surface, h .bed, h .reelTop, h .limitNear, h .limitFar, h .driveFault, h .door, h .spare⟩

@[simp] theorem State.quad_setQuad_same (s : State) (ch : Chan) (q : Quad) :
    (s.setQuad ch q).quad ch = q := by cases ch <;> rfl

@[simp] theorem State.quad_setQuad_ne (s : State) {ch k : Chan} (q : Quad) (h : k ≠ ch) :
    (s.setQuad ch q).quad k = s.quad k := by
  cases ch <;> cases k <;> first | rfl | exact absurd rfl h

theorem State.onMain_powered {s : State} (h : s.powered = true) (f : State → State) :
    s.onMain f = f s := by simp [State.onMain, h]

theorem State.onMain_unpowered {s : State} (h : s.powered = false) (f : State → State) :
    s.onMain f = s := by simp [State.onMain, h]

theorem State.raise_powered {s : State} (h : s.powered = true) (n : Notice) :
    s.raise n =
      { s with
        link := { s.link with queue := enqueue n s.link.queue }
        outs := { s.outs with attn := true } } := by simp [State.raise, h]

theorem State.raise_unpowered {s : State} (h : s.powered = false) (n : Notice) : s.raise n = s := by
  simp [State.raise, h]

/-! The notice queue (R194). -/

theorem Notice.combine_kind (o n : Notice) : (o.combine n).kind = n.kind := by
  cases o <;> cases n <;> rfl

theorem enqueue_ne_nil (n : Notice) (q : List Notice) : enqueue n q ≠ [] := by
  cases q with
  | nil => simp [enqueue]
  | cons m q => unfold enqueue; split <;> simp

/-- The kinds in the queue after a notice is placed. -/
theorem enqueue_kinds (n : Notice) (q : List Notice) :
    (enqueue n q).map Notice.kind =
      if n.kind ∈ q.map Notice.kind then q.map Notice.kind else q.map Notice.kind ++ [n.kind] := by
  induction q with
  | nil => simp [enqueue]
  | cons m q ih =>
    unfold enqueue
    by_cases h : m.kind = n.kind
    · simp [h, Notice.combine_kind m n]
    · have h' : ¬ n.kind = m.kind := fun e => h e.symm
      simp only [h, if_false, List.map_cons, ih, List.mem_cons, h', false_or]
      split <;> simp

theorem enqueue_nodup {n : Notice} {q : List Notice} (h : (q.map Notice.kind).Nodup) :
    ((enqueue n q).map Notice.kind).Nodup := by
  rw [enqueue_kinds]
  split
  · exact h
  · next e =>
    refine List.nodup_append.2 ⟨h, by simp, ?_⟩
    intro a ha b hb he
    simp only [List.mem_singleton] at hb
    exact e (hb ▸ he ▸ ha)

/-! Settings (R188, R189). -/

@[simp] theorem Settings.put_length (t : Settings) (i : SettingId) (v : Option Int) :
    (t.put i v).vals.length = t.vals.length := by simp [Settings.put]

theorem SettingId.place_lt (i : SettingId) : i.place < 99 := by cases i <;> decide

theorem SettingId.at_place (i : SettingId) : allSettings[i.place]? = some i := by cases i <;> rfl

theorem SettingId.place_injective {i j : SettingId} (h : i.place = j.place) : i = j :=
  Option.some.inj (i.at_place.symm.trans ((congrArg (allSettings[·]?) h).trans j.at_place))

theorem Settings.get_put_same (t : Settings) (i : SettingId) (v : Option Int)
    (h : t.vals.length = 99) : (t.put i v).get i = v := by
  have hi : i.place < t.vals.length := h ▸ i.place_lt
  simp [Settings.put, Settings.get, List.getD, hi]

theorem Settings.get_put_ne (t : Settings) {i j : SettingId} (v : Option Int) (h : j ≠ i) :
    (t.put i v).get j = t.get j := by
  have hp : i.place ≠ j.place := fun e => h (SettingId.place_injective e).symm
  simp [Settings.put, Settings.get, List.getD, List.getElem?_set_ne hp]

/-! Rounding and ranges (R2, R3). -/

/-- Division rounds to a nearest whole number. -/
theorem roundDiv_near (n d : Int) (h : 0 < d) :
    2 * (roundDiv n d * d - n) ≤ d ∧ -d ≤ 2 * (roundDiv n d * d - n) := by
  have hd : (0 : Int) < 2 * d := by omega
  unfold roundDiv
  split
  · have e := Int.mul_ediv_add_emod (2 * n + d) (2 * d)
    have a := Int.emod_nonneg (2 * n + d) (by omega : (2 * d) ≠ 0)
    have b := Int.emod_lt_of_pos (2 * n + d) hd
    generalize (2 * n + d) / (2 * d) = q at *
    generalize (2 * n + d) % (2 * d) = r at *
    have : 2 * d * q = 2 * (q * d) := by rw [Int.mul_assoc, Int.mul_comm d q]
    omega
  · have e := Int.mul_ediv_add_emod (2 * -n + d) (2 * d)
    have a := Int.emod_nonneg (2 * -n + d) (by omega : (2 * d) ≠ 0)
    have b := Int.emod_lt_of_pos (2 * -n + d) hd
    generalize (2 * -n + d) / (2 * d) = q at *
    generalize (2 * -n + d) % (2 * d) = r at *
    have h1 : 2 * d * q = 2 * (q * d) := by rw [Int.mul_assoc, Int.mul_comm d q]
    have h2 : -q * d = -(q * d) := Int.neg_mul q d
    omega

theorem clampInt_range {lo hi : Int} (h : lo ≤ hi) (x : Int) :
    lo ≤ clampInt lo hi x ∧ clampInt lo hi x ≤ hi := by
  unfold clampInt
  omega

theorem clampInt_eq {lo hi x : Int} (h : lo ≤ x) (k : x ≤ hi) : clampInt lo hi x = x := by
  unfold clampInt
  omega

/-! Plan slots and the grid (R59, R122). -/

/-- What a reset leaves of a plan slot. -/
theorem judgeSlot_eq_some {c : Option PlanSlot} {p : PlanSlot} :
    judgeSlot c = some p ↔
      c = some p ∧ p.check = checkValue p.plan.numbers ∧ p.plan.legal = true := by
  unfold judgeSlot
  rw [Option.filter_eq_some_iff]
  simp [PlanSlot.matched]

/-- A plan as a store programs it is left by a reset when its content is legal. -/
theorem judgeSlot_programmed {p : StoredPlan} (h : p.legal = true) :
    judgeSlot (some p.programmed) = some p.programmed :=
  judgeSlot_eq_some.2 ⟨rfl, rfl, h⟩

/-! The stored rating and the stored settings (R69, R75, R190). -/

theorem orderFault_cons (i : Nat) (a b : Row) (rest : List Row) :
    orderFault i (a :: b :: rest) =
      if b.stage ≤ a.stage then some (.stageOrder i)
      else if b.flow < a.flow then some (.dischargeOrder i)
      else orderFault (i + 1) (b :: rest) := rfl

/-- Rows without an order fault are those in the order of R69. -/
theorem orderFault_eq_none {i : Nat} {rows : List Row} :
    orderFault i rows = none ↔
      rows.Pairwise fun a b => a.stage < b.stage ∧ a.flow ≤ b.flow := by
  induction rows generalizing i with
  | nil => simp [orderFault]
  | cons a rest ih =>
    cases rest with
    | nil => simp [orderFault]
    | cons b rest =>
      rw [List.pairwise_cons, ← ih (i := i + 1), orderFault_cons]
      constructor
      · intro h
        split at h
        · cases h
        · split at h
          · cases h
          · refine ⟨fun x hx => ?_, h⟩
            rcases List.mem_cons.1 hx with rfl | hx
            · omega
            · have := (List.pairwise_cons.1 (ih.1 h)).1 x hx
              omega
      · rintro ⟨h, k⟩
        have := h b (by simp)
        rw [if_neg (by omega), if_neg (by omega)]
        exact k

/-- The conditions of an active table, as the judgement of a reset decides them. -/
theorem tableLegal_iff {rows : List Row} : tableLegal rows = true ↔ tableOrdered rows := by
  unfold tableLegal commitFault tableOrdered
  split
  · simp only [reduceCtorEq, decide_false, Bool.false_and, Bool.false_eq_true, false_iff]
    omega
  · next h =>
    simp only [orderFault_eq_none, Row.legal, Row.sound, Bool.and_eq_true, decide_eq_true_eq,
      List.all_eq_true, and_assoc]
    exact ⟨fun ⟨o, n, r⟩ => ⟨by omega, n, o, r⟩, fun ⟨_, n, o, r⟩ => ⟨o, n, r⟩⟩

/-- What a reset leaves of the stored rating. -/
theorem judgeRating_eq_some {c : Option StoredRating} {r : StoredRating} :
    judgeRating c = some r ↔
      c = some r ∧ r.check = ratingCheckValue (ratingNumbers r.rows r.generation) ∧
        tableOrdered r.rows := by
  unfold judgeRating
  rw [Option.filter_eq_some_iff]
  simp only [StoredRating.matched, Bool.and_eq_true, decide_eq_true_eq, tableLegal_iff]

/-- What a reset leaves of the stored settings. -/
theorem judgeSettings_eq_some {c : Option StoredSettings} {t : StoredSettings} :
    judgeSettings c = some t ↔
      c = some t ∧ t.check = settingsCheckValue t.settings.numbers ∧
        t.settings.vals.length = 99 ∧ ∀ i : SettingId, i.kind.legal (t.settings.get i) = true := by
  unfold judgeSettings
  rw [Option.filter_eq_some_iff]
  simp only [StoredSettings.matched, Settings.legal, Bool.and_eq_true, decide_eq_true_eq,
    List.all_eq_true]
  constructor
  · rintro ⟨h, k, l, m⟩
    exact ⟨h, k, l, fun i => m i (List.mem_of_getElem? i.at_place)⟩
  · rintro ⟨h, k, l, m⟩
    exact ⟨h, k, l, fun i _ => m i⟩

/-- A time that is not the next instant starts no sample. -/
theorem State.gridInstant_elsewhere {s : State} (h : s.samp.next ≠ some s.time.gridTime) :
    s.gridInstant = s := if_pos h

/-- A second event that reaches no grid instant, or finds the Sampling Unit unpowered, counts only. -/
theorem State.second_counts {s : State}
    (h : s.powered = false ∨ s.samp.next ≠ some s.time.second.gridTime) :
    s.second = s.countSecond := by
  unfold State.second
  rcases h with h | h
  · exact State.onMain_unpowered (s := s.countSecond) h _
  · unfold State.onMain
    split
    · exact State.gridInstant_elsewhere h
    · rfl

/-! Requests (R183). -/

theorem Answer.reply_eq (a : Answer) (k g : Byte) :
    a.reply k g = a.state.replied k g a.code a.body := rfl

/-- A request taken: its answer, and the reply in progress. -/
theorem State.serve_ready {s : State} (h : s.ready) (k g : Byte) (f : State → Answer) :
    s.serve k g f = (f s).state.replied k g (f s).code (f s).body := by
  simp [State.serve, State.listening, h.1, h.2, Answer.reply_eq]

/-- A request lost: the Link Unit is unpowered, or a reply is in progress. -/
theorem State.serve_lost {s : State} (h : s.powered = false ∨ s.link.reply.isSome) (k g : Byte)
    (f : State → Answer) : s.serve k g f = s := by
  have e : s.listening = false := by
    rcases h with h | h
    · simp [State.listening, h]
    · cases hr : s.link.reply <;> simp_all [State.listening]
  simp [State.serve, e]

/-- A request as a command is its answer, served. -/
theorem exec_request (i : Instr) (s : State) {k g : Byte} {p : List Byte}
    (h : encodeRequest i = some (k, g, p)) : exec i s = .next (s.serve k g (State.answer i)) := by
  cases i <;> first
    | (cases h; rfl)
    | cases h

end Sys2Proof.Machine
end

