-- ==== Sys2Proof/Laws/PerInstr.lean ====
section
/-! SUPPORT. Statements made per command: what the encoder gives each as its kind. -/

namespace Sys2Proof.Laws.Encoded

open Sys2Proof.Machine

/-- The kind that carries a command has bit 7 clear and is in the list of requests (R184, 12.4). -/
def Statement (i : Instr) : Prop :=
  ∀ kind tag payload, encodeRequest i = some (kind, tag, payload) →
    kind.toNat < 128 ∧ listedKind kind = true

/-- A command that is no request. -/
theorem of_none {i : Instr} (h : encodeRequest i = none) : Statement i := by
  intro k g p e
  rw [h] at e
  cases e

/-- A request of a listed kind. -/
theorem of_some {i : Instr} {k g : Byte} {p : List Byte} (h : encodeRequest i = some (k, g, p))
    (a : k.toNat < 128) (b : listedKind k = true) : Statement i := by
  intro k' g' p' e
  rw [h] at e
  cases e
  exact ⟨a, b⟩

theorem coldReset : Statement .coldReset := of_none rfl

theorem warmSupplyReturn : Statement .warmSupplyReturn := of_none rfl

theorem resetInputPulse : Statement .resetInputPulse := of_none rfl

theorem powerGoodLoss : Statement .powerGoodLoss := of_none rfl

theorem secondEvent : Statement .secondEvent := of_none rfl

theorem windowClose (count : Nat) : Statement (.windowClose count) := of_none rfl

theorem multiplierLock : Statement .multiplierLock := of_none rfl

theorem gridInstant : Statement .gridInstant := of_none rfl

theorem pressureEdge (b : Nat) : Statement (.pressureEdge b) := of_none rfl

theorem pressureComplete (b : Nat) : Statement (.pressureComplete b) := of_none rfl

theorem pressureTimeout : Statement .pressureTimeout := of_none rfl

theorem quadratureTransition (ch : Chan) (a b : Bool) : Statement (.quadratureTransition ch a b) :=
  of_none rfl

theorem floatIndexEdge : Statement .floatIndexEdge := of_none rfl

theorem rotorEdge (elapsed : Nat) : Statement (.rotorEdge elapsed) := of_none rfl

theorem contactRawChange (input : Contact) (level : Bool) (elapsed : Nat) :
    Statement (.contactRawChange input level elapsed) :=
  of_none rfl

theorem debounceExpiry (input : Contact) : Statement (.debounceExpiry input) := of_none rfl

theorem driveStall : Statement .driveStall := of_none rfl

theorem settleEnd : Statement .settleEnd := of_none rfl

theorem exposureStart : Statement .exposureStart := of_none rfl

theorem exposureExpiry : Statement .exposureExpiry := of_none rfl

theorem holdLimitExpiry : Statement .holdLimitExpiry := of_none rfl

theorem cadenceSlot : Statement .cadenceSlot := of_none rfl

theorem ratingCommitComplete (ok : Bool) : Statement (.ratingCommitComplete ok) := of_none rfl

theorem settingsStoreComplete (ok : Bool) : Statement (.settingsStoreComplete ok) := of_none rfl

theorem planStoreComplete (ok : Bool) : Statement (.planStoreComplete ok) := of_none rfl

theorem planLoadComplete (ok : Bool) : Statement (.planLoadComplete ok) := of_none rfl

theorem frameInterbyteTimeout : Statement .frameInterbyteTimeout := of_none rfl

theorem frameLengthInvalid : Statement .frameLengthInvalid := of_none rfl

theorem frameByteFramingError : Statement .frameByteFramingError := of_none rfl

theorem frameCrcMismatch : Statement .frameCrcMismatch := of_none rfl

theorem replySent : Statement .replySent := of_none rfl

theorem unknownRequest (kind : Byte) (tag : Byte) : Statement (.unknownRequest kind tag) :=
  of_none rfl

theorem status (tag : Byte) : Statement (.status tag) := of_some rfl (by decide) (by decide)

theorem getStage (tag : Byte) : Statement (.getStage tag) := of_some rfl (by decide) (by decide)

theorem getTime (tag : Byte) : Statement (.getTime tag) := of_some rfl (by decide) (by decide)

theorem setTime (tag : Byte) (value : BitVec 32) : Statement (.setTime tag value) :=
  of_some rfl (by decide) (by decide)

theorem setClockSourceCrystal (tag : Byte) : Statement (.setClockSourceCrystal tag) :=
  of_some rfl (by decide) (by decide)

theorem setClockSourceRc (tag : Byte) : Statement (.setClockSourceRc tag) :=
  of_some rfl (by decide) (by decide)

theorem getSetting (tag : Byte) (id : BitVec 16) : Statement (.getSetting tag id) :=
  of_some rfl (by decide) (by decide)

theorem putSetting (tag : Byte) (id : BitVec 16) (value : Option Int) :
    Statement (.putSetting tag id value) :=
  of_some rfl (by decide) (by decide)

theorem storeSettings (tag : Byte) : Statement (.storeSettings tag) :=
  of_some rfl (by decide) (by decide)

theorem setReferenceShaft (tag : Byte) (staff : Int) : Statement (.setReferenceShaft tag staff) :=
  of_some rfl (by decide) (by decide)

theorem setReferencePressure (tag : Byte) (staff : Int) :
    Statement (.setReferencePressure tag staff) :=
  of_some rfl (by decide) (by decide)

theorem putRatingRow (tag : Byte) (index : Nat) (stage discharge : Int) :
    Statement (.putRatingRow tag index stage discharge) :=
  of_some rfl (by decide) (by decide)

theorem clearRatingStaging (tag : Byte) : Statement (.clearRatingStaging tag) :=
  of_some rfl (by decide) (by decide)

theorem getRating (tag : Byte) (table : Nat) : Statement (.getRating tag table) :=
  of_some rfl (by decide) (by decide)

theorem commitRating (tag : Byte) : Statement (.commitRating tag) :=
  of_some rfl (by decide) (by decide)

theorem ackWarning (tag : Byte) (level : Nat) : Statement (.ackWarning tag level) :=
  of_some rfl (by decide) (by decide)

theorem setCaptureArm (tag : Byte) (lines : Byte) (notice : Bool) :
    Statement (.setCaptureArm tag lines notice) :=
  of_some rfl (by decide) (by decide)

theorem setCaptureDisarm (tag : Byte) (lines : Byte) : Statement (.setCaptureDisarm tag lines) :=
  of_some rfl (by decide) (by decide)

theorem setCaptureSelect (tag : Byte) (lines : Byte) (polarity : Byte) :
    Statement (.setCaptureSelect tag lines polarity) :=
  of_some rfl (by decide) (by decide)

theorem readLines (tag : Byte) : Statement (.readLines tag) := of_some rfl (by decide) (by decide)

theorem jogTravelPosition (tag : Byte) (x : Int) : Statement (.jogTravelPosition tag x) :=
  of_some rfl (by decide) (by decide)

theorem jogTravelHome (tag : Byte) : Statement (.jogTravelHome tag) :=
  of_some rfl (by decide) (by decide)

theorem jogReelPayout (tag : Byte) (x : Int) : Statement (.jogReelPayout tag x) :=
  of_some rfl (by decide) (by decide)

theorem jogReelTop (tag : Byte) : Statement (.jogReelTop tag) := of_some rfl (by decide) (by decide)

theorem stop (tag : Byte) : Statement (.stop tag) := of_some rfl (by decide) (by decide)

theorem putPlanHeader (tag : Byte) (name : List Byte) (count : Nat) (method : Nat) :
    Statement (.putPlanHeader tag name count method) :=
  of_some rfl (by decide) (by decide)

theorem putVertical (tag : Byte) (index : Nat) (entry : VertForm) :
    Statement (.putVertical tag index entry) :=
  of_some rfl (by decide) (by decide)

theorem validatePlan (tag : Byte) : Statement (.validatePlan tag) :=
  of_some rfl (by decide) (by decide)

theorem getPlan (tag : Byte) (start : Nat) : Statement (.getPlan tag start) :=
  of_some rfl (by decide) (by decide)

theorem storePlan (tag : Byte) (slot : Nat) : Statement (.storePlan tag slot) :=
  of_some rfl (by decide) (by decide)

theorem loadPlan (tag : Byte) (slot : Nat) : Statement (.loadPlan tag slot) :=
  of_some rfl (by decide) (by decide)

theorem startRun (tag : Byte) : Statement (.startRun tag) := of_some rfl (by decide) (by decide)

theorem holdRun (tag : Byte) : Statement (.holdRun tag) := of_some rfl (by decide) (by decide)

theorem resumeRun (tag : Byte) : Statement (.resumeRun tag) := of_some rfl (by decide) (by decide)

theorem abortRun (tag : Byte) : Statement (.abortRun tag) := of_some rfl (by decide) (by decide)

theorem archiveSeekOldest (tag : Byte) : Statement (.archiveSeekOldest tag) :=
  of_some rfl (by decide) (by decide)

theorem archiveSeekNewest (tag : Byte) : Statement (.archiveSeekNewest tag) :=
  of_some rfl (by decide) (by decide)

theorem archiveSeekSeq (tag : Byte) (n : BitVec 32) : Statement (.archiveSeekSeq tag n) :=
  of_some rfl (by decide) (by decide)

theorem archiveSeekTime (tag : Byte) (t : BitVec 32) : Statement (.archiveSeekTime tag t) :=
  of_some rfl (by decide) (by decide)

theorem archiveReadForward (tag : Byte) (count : Nat) : Statement (.archiveReadForward tag count) :=
  of_some rfl (by decide) (by decide)

theorem archiveReadBackward (tag : Byte) (count : Nat) :
    Statement (.archiveReadBackward tag count) :=
  of_some rfl (by decide) (by decide)

theorem archiveReadHold (tag : Byte) (count : Nat) : Statement (.archiveReadHold tag count) :=
  of_some rfl (by decide) (by decide)

theorem resultReadHeader (tag : Byte) (slot : SlotName) : Statement (.resultReadHeader tag slot) :=
  of_some rfl (by decide) (by decide)

theorem resultReadVerticals (tag : Byte) (slot : SlotName) (start : Nat) :
    Statement (.resultReadVerticals tag slot start) :=
  of_some rfl (by decide) (by decide)

theorem takeNotice (tag : Byte) : Statement (.takeNotice tag) := of_some rfl (by decide) (by decide)

theorem setIdentity (tag : Byte) (number : BitVec 16) (writeOk : Bool) :
    Statement (.setIdentity tag number writeOk) :=
  of_some rfl (by decide) (by decide)

theorem restart (tag : Byte) : Statement (.restart tag) := of_some rfl (by decide) (by decide)

theorem frameByteReceived (byte : Byte) (writeOk : Bool) :
    Statement (.frameByteReceived byte writeOk) :=
  of_none rfl

end Sys2Proof.Laws.Encoded
end

