-- ==== Sys2Proof/Tests/Slice0.lean ====
section
/-! SUPPORT. Tests: what well-formedness refuses, commands on small states with the numbers of the
manual's tables and worked sequences, and for every statement a state that meets its hypotheses, at an
edge of their ranges. -/

namespace Sys2Proof.Tests

open Sys2Proof.Machine

/-! Ill-formed commands, each refused. -/

theorem test_wf_counter_b : (Instr.pressureEdge 8388609).wf = false ∧
    (Instr.pressureEdge 8388608).wf = true ∧ (Instr.pressureComplete 0).wf = false ∧
    (Instr.pressureComplete 8388609).wf = false := by decide

theorem test_wf_unknown_request : (Instr.unknownRequest 0x01 0).wf = false ∧
    (Instr.unknownRequest 0x81 0).wf = true := by decide

theorem test_wf_numbers : (Instr.putSetting 0 0 (some 2147483648)).wf = false ∧
    (Instr.setReferenceShaft 0 32768).wf = false ∧
    (Instr.setReferencePressure 0 (-32769)).wf = false ∧
    (Instr.putRatingRow 0 256 0 0).wf = false ∧ (Instr.putRatingRow 0 0 40000 0).wf = false ∧
    (Instr.putRatingRow 0 0 0 (-5)).wf = false ∧
    (Instr.jogTravelPosition 0 2147483648).wf = false ∧
    (Instr.jogReelPayout 0 (-2147483649)).wf = false := by decide

theorem test_wf_codes : (Instr.getRating 0 256).wf = false ∧ (Instr.ackWarning 0 256).wf = false ∧
    (Instr.getPlan 0 256).wf = false ∧ (Instr.storePlan 0 256).wf = false ∧
    (Instr.loadPlan 0 256).wf = false ∧ (Instr.archiveReadForward 0 256).wf = false ∧
    (Instr.archiveReadBackward 0 256).wf = false ∧ (Instr.archiveReadHold 0 256).wf = false ∧
    (Instr.resultReadHeader 0 (.number 256)).wf = false ∧
    (Instr.resultReadVerticals 0 .newest 256).wf = false := by decide

theorem test_wf_plans : (Instr.putPlanHeader 0 (List.replicate 238 0x41) 5 0).wf = false ∧
    (Instr.putPlanHeader 0 [] 256 0).wf = false ∧ (Instr.putPlanHeader 0 [] 5 256).wf = false ∧
    (Instr.putVertical 0 256 (.edge 0 0 0)).wf = false ∧
    (Instr.putVertical 0 1 (.edge 0 65536 0)).wf = false ∧
    (Instr.putVertical 0 1 (.edge 0 0 (-1))).wf = false ∧
    (Instr.putVertical 0 1 (.metered 2147483648 0 40 1)).wf = false ∧
    (Instr.putVertical 0 1 (.metered 0 256 40 1)).wf = false ∧
    (Instr.putVertical 0 1 (.metered 0 0 (-1) 1)).wf = false ∧
    (Instr.putVertical 0 1 (.metered 0 0 40 256)).wf = false := by decide +kernel

/-! States. -/

/-- The state after a list of commands, and the state itself should one not answer. -/
def after (l : List Instr) (s : State) : State :=
  match execAll l s with
  | .next t => t
  | _ => s

/-- The outcome of the reply in progress. -/
def code (s : State) : Option ReplyCode := s.link.reply.map (·.code)

/-- The reset state with a LOCKED multiplier. -/
def locked : State := { State.reset with lock := .locked }

/-- The reset state with the timebase given. -/
def timed (t : Timebase) : State := { State.reset with time := t }

/-- The reset state with a contact asserted. -/
def touching (i : Contact) (s : State) : State :=
  { s with contacts := s.contacts.set i { ContactLine.start true with level := true } }

/-- The reset state with both axes referenced and the weight at the top. -/
def stowed : State :=
  touching .reelTop
    { State.reset with drive := { DriveUnit.start with travelRef := true, reelRef := true } }

/-- A move of an axis. -/
def moving (r : Requester) (ax : Axis) (k : MoveKind) (forward : Bool) : Move :=
  { requester := r, axis := ax, kind := k, speed := .auto, forward := forward, slowPhase := false,
    peak := 0, countAt := 0, phaseAt := 0, contact := none, stopPos := none, outcome := none }

/-- A state with a move in flight. -/
def underway (m : Move) (s : State) : State := s.setMoving m

/-- The plan of the worked sequence of chapter 8 with its edges and one metered entry. -/
def smallPlan : List PlanEntry := [.edge 2000 0 700, .metered 3000 .one 40 1, .edge 7000 0 700]

/-- The header of that plan. -/
def smallHeader : PlanHeader := { name := [0x41], count := 3, method := .one }

/-- The reset state with that plan VALID in the buffer. -/
def planned (s : State) : State :=
  { s with
    plan :=
      { s.plan with
        header := some smallHeader, buffer := .valid
        entries := smallPlan.map some ++ List.replicate 29 none } }

/-- A result with a run number. -/
def resultOf (n : Nat) : RunResult :=
  { header := { State.reset.claimHeader n smallHeader with status := .complete }, verts := [] }

/-- A run of that plan in a phase, its result RUNNING in slot 1. -/
def running (p : Phase) (s : State) : State :=
  { s with
    marker := { active := true, slot := 1, runNumber := 1 }
    recmem :=
      s.recmem.setSlot 1
        (some { header := s.claimHeader 1 smallHeader, verts := [edgeRecord 1 (.edge 2000 0 700)] })
    run :=
      { RunUnit.start with
        phase := p, current := 2
        snap := some { header := smallHeader, entries := smallPlan, settings := s.settings } } }

/-- A contact whose debounce interval toward a level is in progress. -/
def bouncing (i : Contact) (raw : Bool) (s : State) : State :=
  { s with contacts := s.contacts.set i { ContactLine.start (!raw) with raw := raw, since := some 0 } }

/-- An interval record with a number and a calendar time. -/
def recordOf (n : Nat) (c : Option Nat) : IntervalRecord :=
  { seq := n, calendar := c, mono := n, timeQuality := .unset, stage := none, quality := .missing,
    shaft := none, press := none, flow := none, generation := none, level := .normal, rate := none,
    period := 900, slip := false, range := false, storm := false, differs := false, below := false,
    above := false }

/-- The reset state with three records 5, 6 and 7 and a cursor. -/
def archived (cursor : Option Nat) : State :=
  { State.reset with
    recmem :=
      { State.reset.recmem with
        recs := [recordOf 5 none, recordOf 6 (some 100), recordOf 7 (some 100)], next := 8,
        cursor := cursor } }

/-- A sample in formation. -/
def forming : Forming :=
  { mono := 900, calendar := none, period := 900,
    capture := { count := 0, tally := 0, saturated := false, slip := false, setAside := false } }

/-- A level latched. -/
def latched : LevelCell := { latched := true, entry := 0, exit := 0 }

/-- The reset state with WATCH and WARNING latched, current level WARNING, which is lockout. -/
def warned : State :=
  { State.reset with warn := { State.reset.warn with watch := latched, warning := latched } }

/-- The reset state with a long operation in flight. -/
def writing (c : FlashClass) (slot : Option Nat) (s : State) : State := s.startOp c slot

/-- A move that has met its stop condition, settling. -/
def settled (m : Move) (o : MoveOutcome) (s : State) : State :=
  { s with drive := { s.drive with state := .settling { m with outcome := some o } 0 } }

/-- The partial vertical of a run. -/
def sounding (v : Partial) (s : State) : State := { s with run := { s.run with vertical := v } }

/-- A point with a target. -/
def pointAt (target : Int) : Point := { placePoint 100 150 100 0 2000 (some 600) with target := target }

/-- The reset state with a setting written. -/
def written (i : SettingId) (x : Option Int) (s : State) : State :=
  { s with settings := s.settings.put i x }

/-- The state at a grid instant of the default period, but for the second event that reaches it. -/
def beforeInstant (t : Timebase) : State := timed { t with mono := 899 }

/-! Numbers of the manual. -/

/-- R182: the check value of the nine digits. -/
theorem test_crc : crc [0x31, 0x32, 0x33, 0x34, 0x35, 0x36, 0x37, 0x38, 0x39] = 0x29B1 := by
  decide +kernel

/-- 12.5, the reply to a TAKE_NOTICE on an empty queue with tag 0x21. -/
theorem test_empty_reply_bytes :
    ((after [.takeNotice 0, .replySent, .takeNotice 0x21] .reset).link.reply.map Reply.frame) =
      some [0xC3, 0x01, 0xF8, 0x21, 0x0E, 0x6C, 0x9E] := by decide +kernel

/-- R2: halves are rounded away from zero. -/
theorem test_rounding : roundDiv 5 2 = 3 ∧ roundDiv (-5) 2 = -3 ∧ roundDiv 7 3 = 2 ∧
    msTicks 5 = 164 := by decide

/-- 3.3, worked case: 250 000 cHz with O_p 1 441 is 3 429 mm. -/
theorem test_pressure_stage :
    ({ State.reset with stage := { State.reset.stage with pressOffset := 1441 } }).pressureStage
      250000 = (3429, false) := by decide

/-- R20: a turn through 00, 10, 11, 01 counts four up at multiplier 4. -/
theorem test_quadrature_turn :
    (after
      [.quadratureTransition .float true false, .quadratureTransition .float true true,
       .quadratureTransition .float false true, .quadratureTransition .float false false]
      .reset).float.count = 4 := by decide

/-- R20: 00 to 11 is a phase error. -/
theorem test_quadrature_error :
    (after [.quadratureTransition .reel true true] .reset).reel.tally = 1 := by decide

/-- R13: the calendar goes from its last second to 0, monotonic seconds hold. -/
theorem test_second_wraps :
    let t := (after [.secondEvent]
      (timed { Timebase.cold with mono := 4294967295, calendar := some 4294967295 })).time
    t.mono = 4294967295 ∧ t.calendar = some 0 := by decide

/-- R6 and R7: a second bad window of 3 685 cycles fails the crystal. -/
theorem test_window_fails :
    let t := (after [.windowClose 3685]
      (timed { Timebase.cold with source := .crystal, pending := none, bad := 1,
                                  recent := [4506] })).time
    t.source = .rc ∧ t.clockFail = true ∧ t.subSecond = 1 := by decide

/-- R29: a debounce time of 10 ms is 328 ticks; the edge is taken at its end. -/
theorem test_debounce :
    let t := after [.contactRawChange .door true 0, .debounceExpiry .door] .reset
    t.level .door = true ∧ t.contacts.door.since = none ∧ msTicks 10 = 328 := by decide

/-- 2.7, worked sequence, steps 1, 4 and 9: the LINE entry and its removal. -/
theorem test_capture_door :
    let t := after
      [.takeNotice 0, .replySent, .setCaptureArm 0 0x40 true, .replySent,
       .contactRawChange .door true 0, .debounceExpiry .door] .reset
    t.link.queue.map Notice.kind = [.line] ∧ t.outs.attn = true ∧
      (after [.setCaptureDisarm 0 0x40] t).link.queue = [] := by decide

/-- 5, worked sequence: the rating of the manual looked up at its rows and between them. -/
theorem test_rating_lookup :
    let u : RatingUnit :=
      { State.reset.rating with
        active := [⟨2450, 0⟩, ⟨2700, 180⟩, ⟨3000, 900⟩, ⟨3600, 1800⟩, ⟨4500, 4650⟩]
        generation := 7 }
    u.lookup 2449 = { flow := some 0, flag := .below, generation := some 7 } ∧
    u.lookup 3429 = { flow := some 1544, flag := .none, generation := some 7 } ∧
    (u.lookup 4501).flag = .above := by decide

/-- R73: a row out of range is clamped. -/
theorem test_row_clamped :
    (after [.putRatingRow 0 0 32001 (-5)] .reset).rating.staging = [⟨32000, 0⟩] ∧
    code (after [.putRatingRow 0 1 0 0] .reset) = some .invalid := by decide

/-- R103: a travel move with the weight down is refused INTERLOCK; the reel may be raised. -/
theorem test_jog :
    code (after [.jogTravelHome 0] .reset) = some .interlock ∧
    code (after [.jogReelTop 0] .reset) = some .accepted ∧
    (after [.jogReelTop 0] .reset).outs.reelUp = true := by decide

/-- R92 to R94: the first slot of level WARNING sounds the siren and lights the beacon. -/
theorem test_cadence :
    let t := after [.cadenceSlot] { warned with warn := { warned.warn with slot := 15 } }
    t.outs.siren = true ∧ t.outs.beacon = true ∧ t.warn.slot = 0 := by decide

/-- R191: the identity is written once. -/
theorem test_identity :
    let t := after [.setIdentity 0 42 true, .replySent] .reset
    t.identity = some 42 ∧ code (after [.setIdentity 0 7 true] t) = some .alreadySet := by decide

/-- R192: RESTART resets when its reply has been sent, and STATUS reports it once. -/
theorem test_restart :
    let t := after [.restart 0, .replySent] .reset
    t.link.resetItem = some .warmRestart ∧ (after [.status 0] t).link.resetItem = none := by decide

/-- R184: kinds with bit 7 set and kinds outside the list. -/
theorem test_unknown : code (after [.unknownRequest 0x81 0] .reset) = some .unknown ∧
    listedKind 0x03 = false ∧ listedKind 0x7F = true := by decide

/-- R188: identifiers of the list. -/
theorem test_setting_codes : settingOfCode 0x0200 = some .floatMultiplier ∧
    settingOfCode 0x0A0E = some .unsteadyLimit ∧ settingOfCode 0x0801 = none := by decide

/-- R59: the second event that reaches the next instant starts the sample; with the multiplier UNLOCKED
its record is written at once (R62). -/
theorem test_second_starts_sample :
    let t := after [.secondEvent] (beforeInstant .cold)
    t.recmem.recs.map (·.mono) = [900] ∧ t.samp.next = some 1800 := by decide

/-- R100: REEL_TOP asserted while the move settles references the reel; the move settles on. -/
theorem test_reference_in_settling :
    let m := moving .host .reel (.toPosition 0) false
    let t := after [.debounceExpiry .reelTop]
      (settled m .reached
        (bouncing .reelTop true { State.reset with reel := { State.reset.reel with count := 40 } }))
    t.reel.count = 0 ∧ t.drive.reelRef = true ∧ t.drive.state.move?.isSome = true := by decide

/-- R115: PUT_PLAN_HEADER during a load is answered BUSY with the class in flight. -/
theorem test_busy_names_load :
    ((after [.putPlanHeader 0 [] 5 1] (writing .planLoad (some 1) .reset)).link.reply.map (·.body)) =
      some (.busyClass .planLoad) := by decide

/-- R122: a slot whose check value does not match is EMPTY after a reset, one that matches is kept. -/
theorem test_slots_judged :
    let p : StoredPlan := { header := smallHeader, entries := smallPlan }
    judgeSlot (some { p.programmed with check := p.programmed.check + 1 }) = none ∧
      judgeSlot (some p.programmed) = some p.programmed := by
  refine ⟨?_, judgeSlot_programmed (by decide)⟩
  simp [judgeSlot, PlanSlot.matched, StoredPlan.programmed]

/-- R69: a stored rating stays VALID with its check value, and is INVALID with another one, or with a
stage not above the one before (R75). -/
theorem test_rating_judged :
    let good := programRating [⟨0, 5⟩, ⟨1, 5⟩] 7
    judgeRating (some good) = some good ∧
      judgeRating (some { good with check := good.check + 1 }) = none ∧
      judgeRating (some (programRating [⟨1, 5⟩, ⟨1, 6⟩] 7)) = none := by
  refine ⟨judgeRating_eq_some.2 ⟨rfl, rfl, by decide⟩, ?_, ?_⟩
  · simp [judgeRating, StoredRating.matched, programRating]
  · have h : tableLegal (programRating [⟨1, 5⟩, ⟨1, 6⟩] 7).rows = false := by decide
    simp [judgeRating, h]

/-- R190: a stored copy of the settings with another check value, or with rotor_spacing 51, is INVALID. -/
theorem test_settings_judged :
    let good := Settings.defaults.programmed
    judgeSettings (some { good with check := good.check + 1 }) = none ∧
      judgeSettings (some (Settings.defaults.put .rotorSpacing (some 51)).programmed) = none := by
  constructor
  · simp [judgeSettings, StoredSettings.matched, Settings.programmed]
  · have h : (Settings.defaults.put .rotorSpacing (some 51)).legal = false := by decide +kernel
    simp [judgeSettings, Settings.programmed, h]

/-! States that meet the hypotheses of the statements. -/

theorem witness_StepRunsFrontCommand :
    ({ State.reset with pending := [.coldReset, .secondEvent] }).pending =
      .coldReset :: [.secondEvent] := by decide

theorem witness_EmptyQueueCountsOneTick : State.reset.pending = [] ∧
    State.reset.time.subSecond + 1 < 32768 ∧
    (timed { Timebase.cold with subSecond := 32767 }).pending = [] ∧
    (timed { Timebase.cold with subSecond := 32767 }).time.subSecond = 32767 := by decide

theorem witness_WarmResetKeepsRetention :
    let s := after [.restart 0] .reset
    State.reset.powered = true ∧
    (s.powered = true ∧ s.link.reply.isSome = true ∧ s.link.restart = true) := by decide

theorem witness_UnpoweredMainDomainStands :
    let s : State := { State.reset with powered := false }
    s.powered = false ∧ Instr.multiplierLock ≠ .coldReset ∧
    Instr.multiplierLock ≠ .warmSupplyReturn ∧ exec .multiplierLock s = .next s :=
  ⟨by decide, by decide, by decide, rfl⟩

theorem witness_ClockAdvancedAndSet :
    let rc := timed { Timebase.cold with pending := none }
    let crystal := timed { Timebase.cold with source := .crystal, pending := none }
    let reached (s : State) : Prop :=
      s.samp.next = some ((s.time.calendar.map fun c => if c = 4294967295 then 0 else c + 1).getD
        (min (s.time.mono + 1) 4294967295))
    (State.reset.powered = true ∧ ¬ reached .reset) ∧
    ((beforeInstant .cold).powered = true ∧ reached (beforeInstant .cold)) ∧
    (State.reset.ready ∧ State.reset.time.pending.isSome = true) ∧
    (rc.ready ∧ rc.time.pending = none ∧ rc.time.source = .rc) ∧
    (crystal.ready ∧ crystal.time.pending = none ∧ crystal.time.source = .crystal ∧
      crystal.press = .idle ∧ crystal.run.exposure = .none) := by decide

theorem witness_SecondBadWindowFailsCrystal :
    let s (earlier : Nat) :=
      beforeInstant
        { Timebase.cold with
          source := .crystal, pending := none, bad := 1, recent := [earlier], subSecond := 32767 }
    (∀ e ∈ [4507, 4506], (s e).powered = true ∧ (s e).time.source = .crystal ∧
      (s e).time.bad = 1 ∧ (s e).time.recent.head? = some e ∧ (3685 < 3686 ∨ 4506 < 3685) ∧
      (s e).time.subSecond < 32768 ∧ (s e).press = .idle ∧ (s e).run.exposure = .none) ∧
    (s 4507).time.subSecond + (8192 - (3685 + 4507)) < 32768 ∧
    (32768 ≤ (s 4506).time.subSecond + (8192 - (3685 + 4506)) ∧
      (s 4506).samp.next = some ((s 4506).time.mono + 1) ∧ (s 4506).time.calendar = none ∧
      (s 4506).samp.forming = none ∧ (s 4506).recmem.next ≤ 4294967295) := by decide

theorem witness_SecondBadWindowFailsCrystal_first :
    let s := timed { Timebase.cold with source := .crystal, pending := none }
    s.time.source = .crystal ∧ s.time.bad = 0 ∧ (3686 ≤ 4506 ∧ 4506 ≤ 4506) ∧
      (4507 < 3686 ∨ 4506 < 4507) := by decide

theorem witness_PendingSwitchEnds :
    let s (g c : Nat) := timed { Timebase.cold with pending := some { good := g, closed := c } }
    ((s 2 78).time.source = .rc ∧ (s 2 78).time.pending = some { good := 2, closed := 78 } ∧
      78 < 79 ∧ 2 < 3 ∧ (3686 ≤ 3686 ∧ 3686 ≤ 4506) ∧ (3685 < 3686 ∨ 4506 < 3685)) ∧
    (∀ p ∈ [(3, 79), (0, 79)], (s p.1 p.2).powered = true ∧ (s p.1 p.2).time.source = .rc ∧
      (s p.1 p.2).time.pending = some { good := p.1, closed := p.2 } ∧
      (s p.1 p.2).press = .idle ∧ (s p.1 p.2).run.exposure = .none) ∧
    ((3 : Nat) = 3 ∧ 3686 ≤ 3686 ∧ 3686 ≤ 4506) ∧
    ((79 : Nat) = 79 ∧ (3 < 3 ∨ 4507 < 3686 ∨ 4506 < 4507) ∧ 3 < 4) := by decide

theorem witness_SourceChangeEndsMeasurementAndExposure :
    let rc := timed { Timebase.cold with pending := some { good := 3, closed := 79 } }
    let crystal := timed
      { Timebase.cold with
        source := .crystal, pending := none, bad := 1, recent := [3685, 4506], subSecond := 32767 }
    let measuring (s : State) : State :=
      { s with press := .waiting 1024 0, samp := { s.samp with forming := some Tests.forming } }
    let exposing (e : Exposure) (retry : Nat) (s : State) : State :=
      let t := running .expose s
      { t with
        run :=
          { t.run with
            exposure := e, vertical := { Partial.start with points := [pointAt 0], retry := retry } } }
    let toRc (s : State) : Prop := s.ready ∧ s.time.pending = none ∧ s.time.source = .crystal
    let t := exposing .waiting 0 locked
    let u := exposing (.running 0) 2 crystal
    (t.powered = true ∧ t.run.snap.isSome = true ∧ t.lock = .locked ∧
      t.run.exposure = .waiting) ∧
    (∀ s ∈ [rc, crystal], (measuring s).press ≠ .idle ∧
      (measuring s).samp.forming = some Tests.forming ∧
      (measuring s).recmem.next ≤ 4294967295 ∧ s.press = .idle) ∧
    (toRc crystal ∧ toRc (measuring crystal) ∧ toRc u) ∧
    (rc.powered = true ∧ rc.time.source = .rc ∧ 3686 ≤ 3686 ∧ 3686 ≤ 4506 ∧
      rc.time.pending = some { good := 3, closed := 79 }) ∧
    (crystal.powered = true ∧ crystal.time.bad = 1 ∧ crystal.time.recent.head? = some 3685 ∧
      3685 < 3686 ∧ 4506 < 4507 ∧ crystal.time.subSecond < 32768 ∧
      crystal.time.subSecond + (8192 - (4507 + 3685)) < 32768 ∧
      32768 ≤ crystal.time.subSecond + (8192 - (0 + 3685)) ∧
      crystal.samp.next ≠ some (crystal.time.mono + 1) ∧ crystal.time.calendar = none) ∧
    ((exposing (.running 0) 1 crystal).run.exposure = .running 0 ∧
      (exposing (.running 0) 1 crystal).run.vertical.retry < 2 ∧
      (exposing .waiting 0 crystal).run.exposure = .waiting) ∧
    (u.run.exposure = .running 0 ∧ 2 ≤ u.run.vertical.retry ∧ u.run.phase = .expose ∧
      u.drive.state = .idle ∧ u.level .driveFault = false ∧ u.level .reelTop = false ∧
      u.run.snap.isSome = true ∧ (u.snapEntry u.run.current).isSome = true ∧
      (u.recmem.slot u.marker.slot).isSome = true ∧
      u.run.vertical.point < u.run.vertical.points.length) := by decide

theorem witness_QuadratureFollowsForwardOrder :
    let place := pairPlace State.reset.float.a State.reset.float.b
    let s (q : Quad) : State := { State.reset with float := q }
    let q := State.reset.float
    State.reset.drive.state.move? = none ∧ DriveState.faulted.move? = none ∧
    (pairPlace false false + 4 - place) % 4 = 0 ∧ (pairPlace true true + 4 - place) % 4 = 2 ∧
    (pairPlace true false + 4 - place) % 4 = 1 ∧ (pairPlace false true + 4 - place) % 4 = 3 ∧
    (s { q with count := 8388606 }).float.count < 8388607 ∧
    (s { q with count := -8388607 }).float.count > -8388608 ∧
    (s { q with count := 8388607 }).float.count = 8388607 ∧
    (s { q with count := -8388608 }).float.count = -8388608 ∧
    q.mult = 4 ∧ q.reversed = false ∧ (s { q with mult := 1 }).float.mult = 1 := by decide

theorem witness_FloatIndexJudged :
    let s (mode : Int) (count : Int) (phase : Option Nat) : State :=
      { State.reset with
        settings := State.reset.settings.put .floatIndexMode (some mode)
        float := { State.reset.float with count := count, dir := some true }
        index := { phase := phase, slip := false } }
    State.reset.nat .floatIndexMode = 1 ∧ State.reset.float.dir ≠ some true ∧
    (s 0 0 none).nat .floatIndexMode = 0 ∧
    ((s 1 5 none).nat .floatIndexMode ≠ 0 ∧ (s 1 5 none).index.phase = none) ∧
    (∀ p ∈ [((1 : Int), (2 : Int), (8 : Int)), (1, 2, 9), (2, 2, -499), (2, 2, 500),
        (2, 8389, -499), (2, -8389, 500)],
      let t := s p.1 (7 + p.2.1 * 1000 + p.2.2) (some 7)
      t.nat .floatIndexMode ≠ 0 ∧ t.float.dir = some true ∧ t.index.phase = some 7 ∧
      t.float.count = (7 : Nat) + p.2.1 * t.floatCpr + p.2.2 ∧ -(t.floatCpr : Int) < 2 * p.2.2 ∧
      2 * p.2.2 ≤ t.floatCpr ∧ t.num .slipTolerance = 8) ∧
    8388607 < (7 : Int) + 8389 * 1000 ∧ (7 : Int) + -8389 * 1000 < -8388608 := by decide

theorem witness_RotorEdgeKeepsSpacing :
    let s (counting : Bool) (count : Nat) (last : Option Nat) (now : Nat) : State :=
      { State.reset with
        ticks := now
        rotor :=
          { counting := counting, count := count, saturated := false, last := last, spacing := 5 } }
    State.reset.powered = true ∧ State.reset.rotor.counting = false ∧
    (s true 3 (some 100) 263).ticks < 100 + msTicks 5 ∧
    100 + msTicks 5 ≤ (s true 65534 (some 100) 264).ticks ∧
    (s true 65535 none 0).rotor.count = 65535 ∧ (s true 65535 none 0).rotor.last = none := by decide

theorem witness_PressureMeasurementFormsSample :
    let s (p : Pressure) : State :=
      { State.reset with press := p, samp := { State.reset.samp with forming := some forming } }
    (s (.waiting 1024 0)).powered = true ∧ (s (.waiting 1024 0)).press = .waiting 1024 0 ∧
    (s (.measuring 1024 (0 + 2) 5 0)).press = .measuring 1024 (0 + 2) 5 0 ∧
    (s (.measuring 1024 1 5 0)).samp.forming = some forming ∧
    (s (.measuring 1024 1 5 0)).recmem.next ≤ 4294967295 ∧ 0 < 1 ∧
    (s (.measuring 1024 1 5 0)).press ≠ .idle := by decide

theorem witness_SampleFormsStageAndRate :
    let s : State :=
      { State.reset with
        press := .measuring 1024 1 0 0, samp := { State.reset.samp with forming := some forming } }
    let pair : Measurement := .pair 1024 1533916
    let late : Measurement := .failed .timeout
    let stage (u : StageUnit) : State := { s with stage := u }
    let referenced := stage { s.stage with shaft := .healthy, pressCount := 2, disagreeCount := 2 }
    let faulted (n : Nat) := stage { s.stage with press := .faulted .range, pressCount := n }
    let held := stage { s.stage with lastValue := some 5 }
    let now (t : State) (o : Measurement) : StageUnit := (t.formStage forming o).1.stage
    (s.powered = true ∧ s.press = .measuring 1024 1 0 0 ∧ 0 < 1533916 ∧
      s.samp.forming = some forming ∧ s.press ≠ .idle) ∧
    ((s.pressureValue pair).1 = some 0 ∧ s.pressureValue late = (none, false, some .timeout)) ∧
    (s.stage.press = .healthy ∧ s.stage.pressCount + 1 < 3 ∧
      3 ≤ referenced.stage.pressCount + 1) ∧
    ((faulted 0).stage.press = .faulted .range ∧ (faulted 0).stage.pressCount + 1 < 3 ∧
      3 ≤ (faulted 2).stage.pressCount + 1) ∧
    ((now s pair).shaft ≠ .healthy ∧ (now referenced pair).shaft = .healthy ∧
      (now referenced pair).press = .healthy ∧ s.stage.disagreeCount + 1 < 3 ∧
      3 ≤ referenced.stage.disagreeCount + 1) ∧
    ((now referenced pair).reported.quality = .good ∧
      (now s pair).reported = { value := some 0, quality := .substituted, mono := some 900 } ∧
      (now held late).reported.quality = .held ∧ (now s late).reported.quality = .missing) ∧
    (∀ e ∈ ([(0, 7)] : List (Nat × Int)), e.1 < forming.mono) ∧
    ((900 : Int) - s.num .riseWindow ≤ 0) := by decide +kernel

/-- The worked rate of rise of chapter 4: 716 mm/h over 900 s, none where the sample stands alone in its
window or the reference is less than half a window old, and 390 and 440 mm/h in storm (R67). -/
theorem test_rate_of_rise :
    rateOfRise 900 [(1000, 3100), (1900, 3250), (2800, 3429)] = some 716 ∧
    rateOfRise 900 [(2800, 3429), (4600, 3590)] = none ∧
    rateOfRise 900 [(2800, 3429), (4600, 3590), (4900, 3620)] = none ∧
    rateOfRise 900 [(4600, 3590), (4900, 3620), (5200, 3655)] = some 390 ∧
    rateOfRise 900 [(4600, 3590), (4900, 3620), (5200, 3655), (5500, 3700)] = some 440 := by
  decide

theorem witness_ContactDebounced :
    let zero : State :=
      { State.reset with settings := State.reset.settings.put .debounceDoor (some 0) }
    let off : State := { State.reset with powered := false }
    let l := (bouncing .door true .reset).contacts.get .door
    (false = State.reset.contacts.door.raw) ∧
    (true ≠ off.contacts.door.raw ∧ off.powered = false) ∧
    (false ≠ l.raw ∧ false = l.level ∧ l.since.isSome = true) ∧
    (true ≠ State.reset.contacts.door.level ∧
      State.reset.num (debounceSetting .door) ≠ 0) ∧
    (zero.num (debounceSetting .door) = 0 ∧ zero.drive.state = .idle ∧ zero.run.phase = .idle ∧
      Contact.door ≠ .driveFault) ∧
    State.reset.contacts.door.since = none := by decide

theorem witness_CapturesSetByLine :
    let line : Notice := .line (.ofByte 0xC0)
    let s : State := { State.reset with link := { State.reset.link with queue := [line] } }
    State.reset.ready ∧ s.ready ∧ s.link.queue = [] ++ line :: [] ∧ (0x40 : Byte) ≠ 0 ∧
    (∀ n ∈ ([] ++ [] : List Notice), n.kind ≠ .line) ∧
    ((LineSet.ofByte 0xC0).has .spare = true ∧ (LineSet.ofByte 0x40).has .spare = false) ∧
    (∀ i ∈ allContacts, (LineSet.ofByte 0xC0).has i = true → (LineSet.ofByte 0xC0).has i = true) ∧
    (0x80 : Byte) &&& ~~~(0x40 : Byte) ≠ 0 ∧ (0x40 : Byte) &&& ~~~(0x40 : Byte) = 0 := by decide

theorem witness_JogStartsMove :
    let run := running .travel .reset
    let m := moving .host .reel (.toPosition 1000) true
    let faulted : State := { stowed with drive := { stowed.drive with state := .faulted } }
    let loose : State :=
      { stowed with drive := { stowed.drive with travelRef := false, reelRef := false } }
    let slipped (n : Nat) : State :=
      { stowed with
        travel := { stowed.travel with tally := n }, reel := { stowed.reel with tally := n } }
    let near := touching .limitNear stowed
    let far : State :=
      written .homeX (some 100000)
        (written .travelCircumference (some 100000) (written .travelLines (some 5000) near))
    (run.ready ∧ run.run.phase ≠ .idle ∧ run.run.phase ≠ .hold) ∧
    ((underway m stowed).drive.state.move? = some m ∧ faulted.drive.state = .faulted ∧
      (touching .driveFault stowed).level .driveFault = true) ∧
    (∀ s ∈ [stowed, loose, slipped 2, slipped 3, near, touching .limitFar stowed, State.reset],
      s.ready ∧ s.run.phase = .idle ∧ s.drive.state = .idle ∧ s.level .driveFault = false) ∧
    (stowed.level .reelTop = true ∧ stowed.level .limitFar = false ∧
      stowed.level .limitNear = false) ∧
    ((loose.quad .travel).tally < 3 ∧ (loose.quad .travel).saturated = false ∧
      loose.drive.travelRef = false ∧ loose.drive.reelRef = false) ∧
    ((slipped 2).travel.tally < 3 ∧ ¬ (slipped 3).travel.tally < 3 ∧
      ¬ (slipped 3).reel.tally < 3) ∧
    ((touching .limitFar stowed).position .travel < 1 ∧
      (touching .limitFar stowed).level .limitFar = true) ∧
    (-1 < near.position .travel ∧ near.level .limitNear = true) ∧
    (stowed.drive.travelRef = true ∧ stowed.drive.reelRef = true ∧
      max (-1000000) (min 1000000 1000001) ≠ stowed.position .travel ∧
      max (-1000000) (min 1000000 1) ≠ stowed.position .reel ∧
      max (-1000000) (min 1000000 0) = stowed.position .travel ∧
      max (-1000000) (min 1000000 0) = stowed.position .reel) ∧
    State.reset.level .reelTop = false ∧
    (near.level .reelTop = true ∧
      roundDiv (near.num .homeX * near.axisCpr .travel * 1000) (near.num .travelCircumference) = 0) ∧
    (far.ready ∧ far.run.phase = .idle ∧ far.drive.state = .idle ∧
      far.level .driveFault = false ∧ far.level .reelTop = true ∧ far.level .limitNear = true ∧
      8388607 <
        roundDiv (far.num .homeX * far.axisCpr .travel * 1000) (far.num .travelCircumference)) ∧
    ((stowed.settingsSound ∧ (slipped 3).settingsSound) ∧ far.settingsSound) := by
  decide +kernel

theorem witness_WeightUpInterlock :
    let m := moving .host .travel (.toPosition 1000) true
    let s := underway m stowed
    let t := underway m (bouncing .reelTop false stowed)
    (s.driveSound ∧ s.outs.travelFwd = true) ∧
    (State.reset.ready ∧ State.reset.run.phase = .idle ∧ State.reset.drive.state = .idle ∧
      State.reset.level .driveFault = false ∧ State.reset.level .reelTop = false) ∧
    (t.powered = true ∧ t.contacts.reelTop.since.isSome = true ∧ t.contacts.reelTop.raw = false ∧
      t.drive.state.travelling = true) ∧
    (bouncing .reelTop false stowed).drive.state.travelling = false ∧
    ({ requester := .run, axis := .travel, kind := .home, speed := .auto } : MoveRequest).axis =
      .travel := by decide

theorem witness_JogEndsByTimersAndStop :
    let faulted (s : State) : State := { s with drive := { s.drive with state := .faulted } }
    let m := moving .host .reel (.toPosition 1000) true
    let ended := { m with outcome := some .reached }
    let s : State := { stowed with drive := { stowed.drive with state := .settling ended 0 } }
    let t := underway m stowed
    (s.powered = true ∧ ended.requester = .host ∧ s.drive.state = .settling ended 0 ∧
      ended.outcome = some .reached) ∧
    (t.powered = true ∧ m.requester = .host ∧ t.drive.state = .moving m) ∧
    (State.reset.ready ∧ State.reset.drive.state = .idle) ∧
    ((faulted (touching .driveFault .reset)).ready ∧
      (faulted (touching .driveFault .reset)).level .driveFault = true) ∧
    ((faulted .reset).drive.state = .faulted ∧ (faulted .reset).level .driveFault = false) ∧
    (t.drive.state.move? = some m ∧ t.referenced .reel = true ∧
      (t.quad .reel).saturated = false ∧ (t.quad .reel).tally < 3) := by decide

theorem witness_MovingDriveStopsAndFaults :
    let reel (k : MoveKind) (forward : Bool) := moving .host .reel k forward
    let seen := stowed.reel.observe true false
    let u := stowed.setQuad .reel seen.1
    let travel (k : MoveKind) (forward : Bool) := moving .host .travel k forward
    let bounces (i : Contact) (raw : Bool) (m : Move) : Prop :=
      let s := underway m (bouncing i raw stowed)
      s.powered = true ∧ s.drive.state = .moving m ∧ (s.contacts.get i).since.isSome = true ∧
        (s.contacts.get i).armed = false ∧ (s.contacts.get i).raw = raw
    (seen.2 = true ∧ u.position .reel = 0 ∧ stowed.num .settleTime = 500 ∧
      (written .settleTime (some 0) stowed).num .settleTime = 0 ∧ stowed.num .reelSlowZone = 100) ∧
    (∀ m ∈ [reel (.toPosition 0) true, reel (.toContact .bed 0) true, reel (.toPosition 100) true,
        reel (.toPosition 101) true], (underway m stowed).drive.state = .moving m ∧
      m.kind.suits m.axis = true ∧ m.requester = .host) ∧
    20 < max (21 : Int) 0 - 0 ∧ ¬ 20 < max (20 : Int) 0 - 0 ∧
    (bounces .limitFar true (travel (.toPosition 5) true) ∧
      bounces .limitNear true (travel (.toPosition (-5)) false) ∧
      bounces .reelTop false (travel .home false) ∧
      bounces .driveFault true (reel (.toPosition 0) true)) ∧
    (bounces .surface true (reel (.toContact .surface 20000) true) ∧
      bounces .bed true (reel (.toPosition 500) true) ∧
      bounces .reelTop true (reel (.toPosition 500) false) ∧
      bounces .limitNear true (travel .home false) ∧
      bounces .door true (travel .home false)) ∧
    stowed.run.phase.working = false ∧
    (settled (reel (.toPosition 0) true) .reached stowed).drive.state =
      .settling { reel (.toPosition 0) true with outcome := some .reached } 0 := by decide

theorem witness_StartRunClaimsSlot :
    let s : State :=
      planned
        { stowed with
          drive := { stowed.drive with travelRef := false }
          stage :=
            { stowed.stage with
              reported := { value := some 3420, quality := .good, mono := some 0 } } }
    let driven (d : DriveState) : State := { s with drive := { s.drive with state := d } }
    let m := moving .host .reel (.toPosition 1000) true
    ((running .hold .reset).ready ∧ (running .hold .reset).run.phase ≠ .idle) ∧
    (State.reset.plan.buffer ≠ .valid ∧ (writing .planLoad (some 1) s).isLoading = true) ∧
    ({ s with warn := warned.warn }).lockout = true ∧
    (planned .reset).stage.reported.quality = .missing ∧
    ((driven .faulted).drive.state = .faulted ∧
      (driven (.moving m)).drive.state.move? = some m) ∧
    smallPlan = .edge 2000 0 700 :: [.metered 3000 .one 40 1, .edge 7000 0 700] ∧
    smallPlan.length = smallHeader.count ∧
    (∀ i, i < smallHeader.count → (s.plan.entries[i]?).join = smallPlan[i]?) ∧
    s.ready ∧ s.run.phase = .idle ∧ s.plan.buffer = .valid ∧ s.isLoading = false ∧
    s.plan.header = some smallHeader ∧ s.lockout = false ∧
    s.stage.reported.quality ≠ .missing ∧ s.drive.state = .idle ∧ s.drive.reelRef = true ∧
    s.level .reelTop = true ∧ s.level .driveFault = false ∧ s.drive.travelRef = false ∧
    s.level .limitNear = false ∧ s.recmem.slots.length = 8 := by decide

theorem witness_RunMeasuresVerticals :
    let top := moving .run .reel (.toContact .reelTop 20000) false
    let home := moving .run .travel .home false
    let go := moving .run .travel (.toPosition 3000) true
    let look (c : Contact) (met : Option Contact) : Move :=
      { moving .run .reel (.toContact c 20000) true with contact := met, stopPos := some 1000 }
    let goal (met : Option Contact) : Move :=
      { moving .run .reel (.toPosition 0) true with contact := met }
    let v : Partial := { Partial.start with surface := some 400 }
    let w : Partial := { Partial.start with points := [pointAt 0] }
    let lowered : State := { State.reset with drive := stowed.drive }
    let states : List (Move × State) :=
      [(top, running .starting stowed), (home, running .starting stowed),
       (go, running .travel stowed), (look .surface (some .surface), running .sound lowered),
       (look .surface none, running .sound lowered), (look .bed none, running .sound lowered),
       (look .bed (some .bed), sounding v (running .sound lowered)),
       (goal none, sounding w (running .setPoint lowered)),
       (goal (some .reelTop), sounding w (running .setPoint lowered)),
       (goal (some .reelTop), sounding w (running .setPoint stowed)),
       (top, running .retract stowed)]
    (∀ p ∈ states,
      let s := settled p.1 .contact p.2
      s.powered = true ∧
      s.drive.state = .settling { p.1 with outcome := some .contact } 0 ∧
      p.1.requester = .run ∧ s.referenced p.1.axis = true ∧
      (s.quad p.1.axis.chan).saturated = false ∧ (s.quad p.1.axis.chan).tally < 3 ∧
      s.level .driveFault = false ∧ s.run.snap.isSome = true ∧
      (s.recmem.slot s.marker.slot).isSome = true ∧ s.run.current = 2 ∧
      s.level .limitNear = false ∧ s.level .limitFar = false ∧ s.level .surface = false ∧
      s.level .bed = false ∧ s.position .reel = 0 ∧ s.position .travel = 0) ∧
    (stowed.level .reelTop = true ∧ lowered.level .reelTop = false) ∧
    smallPlan[1]? = some (.metered 3000 .one 40 1) ∧ smallPlan[2]? = some (.edge 7000 0 700) ∧
    (max (0 : Int) (1000 - 400 + State.reset.num .surfaceElectrodeHeight) = 700 ∧
      ¬ (700 : Int) < State.reset.num .oneMin ∧ (700 : Int) < State.reset.num .twoMin) ∧
    w.points[w.point]? = some (pointAt 0) := by decide

theorem witness_ExposureExpiryKeepsRepeat :
    let point (target : Int) : Point := { placePoint 100 150 100 0 2000 (some 600) with target := target }
    let longer : List PlanEntry := smallPlan ++ [.edge 9000 0 700]
    let s0 := running .expose { State.reset with drive := { DriveUnit.start with reelRef := true } }
    let s (points : List Point) : State :=
      { s0 with
        run := { s0.run with
          exposure := .running 0, vertical := { Partial.start with points := points } } }
    (∀ l ∈ [[point 1000], [point 1000, point 1000000]],
      (s l).powered = true ∧ (s l).run.phase = .expose ∧ (s l).run.exposure = .running 0 ∧
      (s l).snapEntry (s l).run.current = some (.metered 3000 .one 40 1) ∧
      (s l).run.vertical.points[(s l).run.vertical.point]? = some (point 1000) ∧
      1 ≤ (point 1000).repeats.length + 1 ∧ (point 1000).repeats.length + 1 < 2 ∧
      (s l).drive.state = .idle ∧ (s l).level .driveFault = false ∧
      (s l).level .reelTop = false ∧ (s l).drive.reelRef = true ∧ (s l).reel.saturated = false ∧
      (s l).reel.tally < 3 ∧ (point 1000000).target ≠ (s l).position .reel ∧
      (s l).run.snap.isSome = true ∧ ((s l).recmem.slot (s l).marker.slot).isSome = true) ∧
    (s [point 1000]).run.vertical.point + 1 = (s [point 1000]).run.vertical.points.length ∧
    ((s [point 1000]).run.current + 1 = smallPlan.length ∧
      (s [point 1000]).run.snap.map (·.entries) = some smallPlan ∧
      smallPlan[(s [point 1000]).run.current]? = some (.edge 7000 0 700) ∧
      (s [point 1000]).run.vertical.pointFailed = false ∧
      (s [point 1000]).run.current + 1 ≠ longer.length ∧ longer[1]? = some (.metered 3000 .one 40 1)) ∧
    (s [point 1000, point 1000000]).run.vertical.points[1]? = some (point 1000000) := by decide

theorem witness_VerticalVelocitiesComputed :
    let t := Settings.defaults
    let low := Settings.defaults.put .meterB1 (some (-50000))
    let speed (k : Int) : Int := roundDiv (k * 1000 * 32768) (t.num .meterPulses * (40 * 32768))
    let line (t : Settings) (k : Int) : Int :=
      roundDiv (t.num .meterA1 * speed k + t.num .meterB1 * 1000) 1000000
    let at_ (f : Option Nat) (v : Int) : Point :=
      { placePoint 100 150 100 0 2000 f with velocity := some v }
    let ps := [at_ (some 800) 300, at_ (some 600) 305, at_ (some 200) 1000]
    (0 < t.num .meterPulses ∧ 0 < 40 ∧ t.nat .meterSegments = 1) ∧
    (speed 1 = 25 ∧ t.num .meterStartSpeed ≤ speed 1) ∧
    (line low 1 < 0 ∧ 0 ≤ line t 1 ∧ line t 1000 ≤ 10000 ∧ 10000 < line t 65535) ∧
    ((pointAt 0).failure = none ∧ 0 ≤ t.num .spreadLimit) ∧
    (velocityAt ps (some 600) = some 305 ∧ velocityAt ps (some 200) = some 1000 ∧
      velocityAt ps (some 800) = some 300 ∧ velocityAt [at_ none 5] none = some 5 ∧
      measuredMean 850 .three ps = some 478) := by decide

theorem witness_RunHoldsFaultsAndEnds :
    let top := moving .run .reel (.toContact .reelTop 20000) false
    let home := moving .run .travel .home false
    let asked (s : State) : State :=
      { s with run := { s.run with causes := { HoldCauses.none with host := true } } }
    let half : State := { stowed with drive := { stowed.drive with travelRef := false } }
    let lost : State := { stowed with drive := DriveUnit.start }
    let states : List (Move × State) :=
      [(top, asked (running .holdRetract stowed)), (top, running .holdRetract half),
       (home, running .home stowed), (home, running .abortHome stowed),
       (top, running .abortHome stowed), (home, running .travel lost)]
    (∀ p ∈ states,
      let s := settled p.1 .contact p.2
      s.powered = true ∧ s.run.snap.isSome = true ∧
      (s.recmem.slot s.marker.slot).isSome = true ∧ p.1.requester = .run ∧
      s.drive.state = .settling { p.1 with outcome := some .contact } 0 ∧
      (s.referenced p.1.axis = true ∨ s.drive.travelRef = false) ∧
      s.level .reelTop = true ∧ s.level .limitNear = false ∧ s.level .driveFault = false) ∧
    ((asked (running .holdRetract stowed)).run.causes ≠ .none ∧
      (running .holdRetract half).run.causes = .none ∧ half.drive.reelRef = true ∧
      half.drive.travelRef = false ∧ lost.drive.travelRef = false) ∧
    ((underway home (running .travel stowed)).drive.state = .moving home ∧
      Phase.travel.working = true ∧ (running .travel stowed).link.reply = none) ∧
    (let s := bouncing .driveFault true (running .expose stowed)
     s.contacts.driveFault.since.isSome = true ∧ s.contacts.driveFault.raw = true ∧
      s.drive.state = .idle ∧ s.run.phase.working = true) ∧
    (let s := underway home (running .travel stowed)
     s.powered = true ∧ s.link.reply = none ∧ s.drive.state.move? = some home ∧
      settingOfCode 0x0700 = some .travelCircumference ∧
      SettingId.travelCircumference.kind.accept (some 600000) = some (some 600000, false) ∧
      s.settings.vals.length = 99 ∧ s.settings.get .travelCircumference ≠ some 600000 ∧
      s.travel.mult ≠ 2 ∧ s.travel.reversed = false) := by decide

theorem witness_HoldAndResumeRun :
    let m := moving .host .reel (.toPosition 1000) true
    let s := running .hold .reset
    (s.ready ∧ s.run.phase = .hold) ∧ State.reset.run.phase = .idle ∧
    ((running .travel .reset).run.phase.working = true ∧
      (running .travel .reset).drive.state = .idle ∧
      (running .travel .reset).level .driveFault = false ∧
      (running .travel .reset).level .reelTop = false) ∧
    (underway m s).drive.state.move? = some m ∧
    (let cause (c : HoldCauses) (t : State) : State := { t with run := { t.run with causes := c } }
     let faulted (t : State) : State := { t with drive := { t.drive with state := .faulted } }
     let lockout : HoldCauses := { HoldCauses.none with lockout := true }
     let motion : HoldCauses := { HoldCauses.none with motion := true }
     let blocked := touching .driveFault s
     (∀ t ∈ [cause lockout s, faulted (cause lockout s), cause motion s, faulted (cause motion s),
         faulted (cause motion blocked), faulted s, blocked],
       t.ready ∧ t.run.phase = .hold ∧ (t.drive.state = .idle ∨ t.drive.state = .faulted)) ∧
     ((faulted (cause motion s)).level .driveFault = false ∧
       (faulted (cause motion blocked)).level .driveFault = true) ∧
     (s.drive.state = .idle ∧ s.run.causes = .none ∧ s.level .driveFault = false ∧
       s.level .reelTop = false ∧ s.drive.reelRef = false) ∧
     ((faulted s).run.causes = .none ∧ (faulted s).drive.reelRef = false) ∧
     (blocked.run.causes = .none ∧ blocked.level .driveFault = true ∧
       blocked.drive.reelRef = false)) := by decide

theorem witness_AbortAndHoldLimitEndRun :
    let s := running .hold .reset
    let t : State := { s with run := { s.run with causes := { HoldCauses.none with motion := true } } }
    let up := running .hold stowed
    (State.reset.powered = true ∧ State.reset.link.reply = none ∧ State.reset.run.phase = .idle) ∧
    (running .abortHome .reset).run.phase = .abortHome ∧
    (t.powered = true ∧ t.run.phase = .hold ∧ t.run.causes.motion = true ∧
      (t.recmem.slot t.marker.slot).isSome = true) ∧
    (s.run.causes.motion = false ∧ s.drive.state = .idle ∧ s.level .driveFault = false ∧
      s.level .reelTop = false) ∧
    (up.run.causes.motion = false ∧ up.drive.state = .idle ∧ up.level .driveFault = false ∧
      up.level .reelTop = true ∧ up.level .limitNear = false) ∧
    (∀ u ∈ [running .retract .reset, running .home stowed,
        underway (moving .run .reel (.toContact .reelTop 0) false) (running .holdRetract .reset)],
      (u.run.phase.working = true ∨ u.run.phase = .holdRetract ∨ u.run.phase = .home) ∧
      u.run.holdAt = none ∧ (u.drive.state = .idle ∨ u.runMove = true) ∧
      u.level .driveFault = false ∧ u.level .limitNear = false) := by decide

theorem witness_EndComputationCompletesResult :
    let snap : Snapshot := { header := smallHeader, entries := smallPlan, settings := .defaults }
    let vert : VertRecord :=
      { edgeRecord 2 (.edge 3000 0 0) with kind := .metered, depth := none, failed := some .noBed }
    let r : RunResult :=
      { resultOf 1 with
        verts := [edgeRecord 1 (.edge 2000 0 700), vert, edgeRecord 3 (.edge 7000 0 700)] }
    r.verts.length = 3 ∧ snap.entries.length = 3 ∧ 3 ≤ 3 ∧
    (∀ (i : Nat) (v : VertRecord), r.verts[i]? = some v →
      (v.kind = .edge ↔ i = 0 ∨ i + 1 = 3) ∧ (v.depth = none ↔ v.failed ≠ none) ∧
        (v.kind = .edge → v.failed = none) ∧ v.interpolated = false) ∧
    (∀ e, ({ r.header with endStage := some e }).endStage = some e) := by
  refine ⟨by decide, by decide, by decide, ?_, fun _ => rfl⟩
  intro i v h
  match i with
  | 0 => cases h; decide
  | 1 => cases h; decide
  | 2 => cases h; decide
  | i + 3 => simp at h

theorem witness_AckWarningAnswered : warned.ready ∧ (2 ≤ 3 ∧ warned.warn.current.code ≤ 2) ∧
    1 < warned.warn.current.code ∧ 3 < 4 := by decide

theorem witness_EvaluationLatchesAndUnlatches :
    let t := State.reset.settings.put .severeStageOn (some 4000)
    let all := (t.put .watchStageOn (some 2000)).put .warningStageOn (some 3000)
    let w (v : Int) : WarnSample := { value := some v, quality := .good, rate := none, flow := none }
    let u := State.reset.warn
    let ready_ : LevelCell := { latched := false, entry := 1, exit := 0 }
    let v : WarningUnit := { u with watch := latched, warning := latched, severe := latched }
    let n : WarningUnit := { u with watch := ready_, warning := ready_, severe := ready_ }
    let reaches (c : LevelCell) (l : LevelSettings) (x : Int) : Bool :=
      l.enabled && !c.latched && (l.met (w x)).any && decide (l.nOn ≤ min 10 (c.entry + 1))
    (t.severe.enabled = true ∧ u.severe.latched = false ∧ (t.severe.met (w 4000)).any = true ∧
      t.severe.nOn ≤ 10 ∧
      t.severe.nOn ≤ ({ u with severe := { u.severe with entry := 1 } }).severe.entry + 1) ∧
    (v.current = .severe ∧ v.watch.latched = true ∧ v.warning.latched = true ∧
      t.severe.offCondition (w 3949) = true ∧ t.severe.nOff ≤ 2 + 1 ∧ t.severe.nOff ≤ 20 ∧
      t.severe.offCondition (w 3950) = false ∧ 1 ≤ t.severe.nOff) ∧
    (∀ l ∈ [all.watch, all.warning, all.severe], 1 ≤ l.nOn ∧ 1 ≤ l.nOff) ∧
    reaches n.severe all.severe 4000 = true ∧
    (reaches n.severe all.severe 3999 = false ∧ reaches n.warning all.warning 3000 = true) ∧
    (reaches n.warning all.warning 2999 = false ∧ reaches n.watch all.watch 2000 = true) ∧
    (reaches n.watch all.watch 1999 = false ∧ v.current = .severe ∧
      ({ v with severe := .clear }).current = .warning) ∧
    ({ w 0 with quality := .held }).quality = .held := by decide

theorem witness_LevelChangeTakesEffect :
    let w : WarnSample := { value := some 1000, quality := .good, rate := none, flow := none }
    let s := written .watchStageOn (some 1000) .reset
    let one : State := { s with warn := { s.warn with watch := { s.warn.watch with entry := 1 } } }
    let lit : State := { s with warn := { s.warn with watch := latched } }
    let off : WarningUnit := { lit.warn with watch := .clear }
    (∀ t ∈ [State.reset, one, lit],
      t.powered = true ∧ t.run.phase = .idle ∧ t.link.reply = none ∧ t.settings.vals.length = 99) ∧
    (w.quality ≠ .held ∧ w.quality ≠ .missing) ∧
    (((s.warn.evaluate s.settings w).1).current = s.warn.current ∧
      ((s.warn.evaluate s.settings w).1).ack = s.warn.ack) ∧
    (((one.warn.evaluate one.settings w).1).current ≠ one.warn.current ∧
      ((one.warn.evaluate one.settings w).1).ack = one.warn.ack) ∧
    (settingOfCode 0x0600 = some .watchStageOn ∧
      SettingId.watchStageOn.kind.accept none = some (none, false) ∧
      SettingId.watchStageOn.kind.accept (some 2000) = some (some 2000, false) ∧
      (s.settings.put .watchStageOn none).fits .watchStageOn = true ∧
      (s.settings.put .watchStageOn (some 2000)).fits .watchStageOn = true) ∧
    s.settings.enabledLevels = (s.settings.put .watchStageOn (some 2000)).enabledLevels ∧
    (State.reset.settings.enabledLevels ≠ s.settings.enabledLevels ∧
      State.reset.warn.current = .normal) ∧
    (lit.settings.enabledLevels ≠ (lit.settings.put .watchStageOn none).enabledLevels ∧
      off.current ≠ lit.warn.current ∧
      off =
        { lit.warn with
          watch := { latched := false, entry := 0, exit := 0 }
          warning := { latched := false, entry := 0, exit := 0 }
          severe := { latched := false, entry := 0, exit := 0 } }) := by decide +kernel

/-- A run in TRAVEL as WATCH, with lockout at WATCH, latches, and one in HOLD as it is disabled. -/
theorem witness_LevelChangeTakesEffect_run :
    let w : WarnSample := { value := some 1000, quality := .good, rate := none, flow := none }
    let s := written .lockoutLevel (some 0) (written .watchStageOn (some 1000) .reset)
    let cell (c : LevelCell) : State := { s with warn := { s.warn with watch := c } }
    let rising := running .travel (cell { latched := false, entry := 1, exit := 0 })
    let t := running .hold (cell latched)
    let falling : State :=
      { t with run := { t.run with causes := { HoldCauses.none with lockout := true } } }
    let settings := falling.settings.put .watchStageOn none
    (∀ u ∈ [rising, falling], u.powered = true ∧ u.link.reply = none ∧ u.drive.state = .idle ∧
      u.level .driveFault = false ∧ u.level .reelTop = false) ∧
    (rising.run.phase.working = true ∧ rising.lockout = false ∧ rising.warn.current = .normal ∧
      ((rising.warn.evaluate rising.settings w).1).current = .watch ∧
      rising.nat .lockoutLevel < 1) ∧
    (falling.run.phase = .hold ∧ falling.warn.current = .watch ∧
      { falling.run.causes with lockout := false } = HoldCauses.none ∧
      settings.nat .lockoutLevel < 1 ∧ settings.fits .watchStageOn = true ∧
      falling.settings.vals.length = 99 ∧
      falling.settings.enabledLevels ≠ settings.enabledLevels) := by decide +kernel

theorem witness_RatingTableEditedAndCommitted :
    let s (l : List Row) : State :=
      { State.reset with rating := { State.reset.rating with staging := l } }
    let rows : List Row := [⟨0, 5⟩, ⟨1, 5⟩]
    let t := writing .rating none { s rows with rating := { (s rows).rating with image := some rows } }
    ((s (List.replicate 24 ⟨0, 0⟩)).rating.staging.length ≤ 24 ∧
      23 < (s (List.replicate 24 ⟨0, 0⟩)).rating.staging.length ∧
      (s (List.replicate 23 ⟨0, 0⟩)).rating.staging.length = 23 ∧ 23 < 24 ∧
      (s []).rating.staging.length < 1) ∧
    ((s []).ready ∧ (s []).rating.staging.length < 2) ∧
    ((s [⟨1, 0⟩, ⟨1, 0⟩]).rating.staging[0]? = some ⟨1, 0⟩ ∧
      (s [⟨1, 0⟩, ⟨1, 0⟩]).rating.staging[1]? = some ⟨1, 0⟩ ∧ (1 : Int) ≤ 1) ∧
    ((0 : Int) < 1 ∧ (4 : Int) < 5) ∧
    (2 ≤ rows.length ∧ rows.Pairwise (fun a b => a.stage < b.stage ∧ a.flow ≤ b.flow) ∧
      (s rows).flash.op = none) ∧
    (t.powered = true ∧ t.flash.op.isSome = true ∧ t.flash.op.map (·.cls) = some .rating ∧
      t.rating.image = some rows) := by decide

theorem witness_LookupFollowsTable :
    let rows : List Row := [⟨-2000, 0⟩, ⟨31998, 50000000⟩]
    State.reset.rating.active = [] ∧ tableOrdered rows ∧ rows[0]? = some ⟨-2000, 0⟩ ∧
    rows[1]? = some ⟨31998, 50000000⟩ ∧ 0 + 2 = rows.length ∧ ((31998 : Int) < 31999) ∧
    ((-2000 : Int) < -1999) ∧ ((-1999 : Int) < 31998) := by decide

theorem witness_GridInstantStartsSample :
    let s (l : Lock) (f : Option Forming) : State :=
      { timed { Timebase.cold with mono := 900 } with
        lock := l, samp := { State.reset.samp with forming := f } }
    (0 < 900 ∧ (s .locked none).time.gridTime + 900 ≤ 4294967295) ∧
    (s .locked none).powered = true ∧ State.reset.samp.next ≠ some State.reset.time.gridTime ∧
    (s .locked none).samp.next = some (s .locked none).time.gridTime ∧
    (s .locked none).samp.forming = none ∧ (s .locked none).lock = .locked ∧
    (s .locked (some forming)).samp.forming = some forming ∧
    (s (.unlocked 0) none).lock = .unlocked 0 ∧
    (s (.unlocked 0) none).recmem.next ≤ 4294967295 := by decide

theorem witness_ReferenceMakesStageExact :
    let s (f : Int) : State :=
      { State.reset with
        stage := { State.reset.stage with meas := some { freq := f, n := 1024, mono := 0 } } }
    State.reset.ready ∧ State.reset.stage.meas = none ∧
    ((s 140000).ready ∧ (s 140000).stage.meas = some { freq := 140000, n := 1024, mono := 0 } ∧
      (s 140000).num .pressureFMin ≤ 140000 ∧ 140000 ≤ (s 140000).num .pressureFMax) ∧
    (350001 : Int) > (s 350001).num .pressureFMax := by decide

theorem witness_PlanBufferEditedAndJudged :
    let loading := writing .planLoad (some 1) .reset
    State.reset.ready ∧ (¬ [(0x41 : Byte)].length > 12) ∧ (∀ b ∈ [(0x41 : Byte)], 0x20 ≤ b ∧ b ≤ 0x7E) ∧
    (4 < 5 ∧ EntryMethod.ofCode 4 = some .surface ∧ EntryMethod.ofCode 5 = some .default) ∧
    (loading.ready ∧ loading.isLoading = true) ∧ State.reset.isLoading = false ∧
    (List.replicate 13 (0x41 : Byte)).length > 12 ∧
    (planned .reset).plan.header = some smallHeader ∧
    planFault ((planned .reset).num .positionTolerance) (planned .reset).plan.header
      (planned .reset).plan.entries = none ∧
    planFault 50 State.reset.plan.header State.reset.plan.entries = some (.noHeader, none) ∧
    2 ≤ smallHeader.count := by decide

theorem witness_PlanSlotsStoredAndLoaded :
    let image : StoredPlan := { header := smallHeader, entries := smallPlan }
    let bad : StoredPlan := { header := smallHeader, entries := [] }
    let busy (c : FlashClass) := writing c (some 6) (planned .reset)
    let store : State :=
      { busy .planStore with plan := { (busy .planStore).plan with storeImage := some image } }
    let load (p : Option PlanSlot) : State :=
      { busy .planLoad with plan := { (busy .planLoad).plan with loadImage := p } }
    (State.reset.ready ∧ State.reset.plan.buffer ≠ .valid) ∧
    ((planned .reset).plan.buffer = .valid ∧ (planned .reset).flash.op = none) ∧
    ((busy .settings).flash.op = some { cls := .settings, slot := some 6, mono := 0 } ∧
      (busy .settings).plan.buffer = .valid) ∧
    (busy .planLoad).flash.op.map (·.cls) = some .planLoad ∧
    (store.powered = true ∧ store.flash.op = some { cls := .planStore, slot := some 6, mono := 0 } ∧
      store.plan.storeImage = some image) ∧
    (load none).plan.loadImage = none ∧
    (load (some image.programmed)).plan.loadImage =
      some { plan := image, check := Config.checkValue image.numbers } ∧
    Config.checkValue image.numbers + 1 ≠ Config.checkValue image.numbers ∧
    planFault 50 (some image.header) image.buffer = none ∧
    planFault 50 (some bad.header) bad.buffer = some (.missing, some 1) :=
  ⟨by decide, by decide, by decide, by decide, by decide, rfl, rfl, Nat.succ_ne_self _, by decide,
    by decide⟩

theorem witness_SettingWrittenAsAdmitted :
    State.reset.ready ∧ settingOfCode 0x0100 = none ∧
    (settingOfCode 0x0200 = some .floatMultiplier ∧
      SettingId.floatMultiplier.kind = .oneOf [1, 2, 4] ∧ (3 : Int) ∉ [(1 : Int), 2, 4]) ∧
    (settingOfCode 0x0401 = some .stormDivisor ∧
      (State.reset.settings.put .stormDivisor (some 7)).fits .stormDivisor = false ∧
      (State.reset.settings.put .stormDivisor (some (max 1 (min 12 13)))).fits .stormDivisor = true) ∧
    State.reset.settings.vals.length = 99 := by decide

theorem witness_SettingTakesEffectAtOnce :
    let admitted : List (BitVec 16 × SettingId × Int) :=
      [(0x0200, .floatMultiplier, 4), (0x0200, .floatMultiplier, 1), (0x0204, .travelDirection, 1),
       (0x0206, .floatIndexMode, 0), (0x0206, .floatIndexMode, 2), (0x0301, .floatLines, 250),
       (0x0301, .floatLines, 5000), (0x0300, .floatCircumference, 375000),
       (0x0300, .floatCircumference, 100000), (0x0703, .reelLines, 200), (0x0703, .reelLines, 50),
       (0x0210, .debounceDoor, 0), (0x0210, .debounceDoor, 50), (0x0400, .baseInterval, 900),
       (0x0400, .baseInterval, 3600), (0x0619, .lockoutLevel, 1), (0x0619, .lockoutLevel, 3),
       (0x061A, .sirenLevel, 1), (0x061A, .sirenLevel, 3), (0x0800, .positionTolerance, 50),
       (0x0800, .positionTolerance, 1000)]
    let m := moving .host .reel (.toPosition 1000) true
    let open_ := written .lockoutLevel (some 3) warned
    let lone : HoldCauses := { HoldCauses.none with lockout := true }
    let locked_ (s : State) : State := { s with run := { s.run with causes := lone } }
    (∀ p ∈ admitted, settingOfCode p.1 = some p.2.1 ∧
      p.2.1.kind.accept (some p.2.2) = some (some p.2.2, false) ∧
      (State.reset.settings.put p.2.1 (some p.2.2)).fits p.2.1 = true) ∧
    (State.reset.ready ∧ State.reset.settings.vals.length = 99) ∧
    (∀ ch ∈ [Chan.float, .travel, .reel],
      (State.reset.quad ch).mult = State.reset.nat (multSetting ch) ∧
      (State.reset.quad ch).reversed = decide (State.reset.nat (dirSetting ch) = 1)) ∧
    ((underway m stowed).drive.state.move? = some m ∧ m.axis = .reel ∧ m.requester = .host) ∧
    (State.reset.stage.shaft = .unreferenced ∧
      ({ State.reset.stage with shaft := .healthy }).shaft ≠ .unreferenced) ∧
    ((bouncing .door true .reset).contacts.door.since = some 0 ∧ 0 < 0 + msTicks 50 ∧
      0 + msTicks 0 ≤ 0 ∧ (bouncing .door true .reset).contacts.door.armed = false) ∧
    (State.reset.samp.period = 900 ∧ State.reset.storm = false) ∧
    (open_.lockout = false ∧ 1 < open_.warn.current.code ∧
      (running .travel open_).run.phase.working = true ∧
      (running .hold open_).run.phase = .hold) ∧
    (warned.lockout = true ∧ (locked_ (running .hold warned)).run.phase = .hold ∧
      { lone with lockout := false } = .none) ∧
    ((written .sirenLevel (some 1) warned).sounding = true ∧
      (written .sirenLevel (some 3) warned).sounding = false) ∧
    ((planned .reset).plan.buffer = .valid ∧
      State.reset.settings.get .positionTolerance = some 50) := by decide +kernel

theorem witness_SettingsAndIdentityStored :
    let s := writing .settings none .reset
    let t : State := { State.reset with identity := some 65535 }
    (s.ready ∧ s.flash.op.isSome = true) ∧ (State.reset.ready ∧ State.reset.flash.op = none) ∧
    (s.powered = true ∧ s.flash.op.map (·.cls) = some .settings) ∧
    ((0xFFFF : BitVec 16) ≠ 0 ∧ State.reset.identity = none) ∧
    (t.ready ∧ t.identity.isSome = true) ∧
    step { t with pending := [.multiplierLock] } = .next { t with lock := .locked } :=
  ⟨by decide, by decide, by decide, by decide, by decide, rfl⟩

theorem witness_IntervalRecordsKeptInOrder :
    let last : State :=
      { State.reset with
        recmem :=
          { State.reset.recmem with
            recs := [recordOf 4294967295 none], next := 4294967296, cursor := some 4294967295 } }
    let s : State :=
      { State.reset with
        press := .waiting 1024 0, samp := { State.reset.samp with forming := some forming } }
    ((archived none).powered = true ∧ (archived none).recmem.sound ∧
      (archived none).recmem.next ≤ 4294967295 ∧ (archived none).recmem.recs.length < 8000) ∧
    (last.recmem.sound ∧ 4294967295 < last.recmem.next) ∧
    (s.powered = true ∧ s.press ≠ .idle ∧ s.samp.forming = some forming) := by decide

theorem witness_ArchiveCursorSeeks :
    let s := archived none
    s.ready ∧ s.recmem.sound ∧ State.reset.recmem.sound ∧
    s.recmem.next - s.recmem.recs.length = 5 ∧ (5 ≤ 7 ∧ 7 < s.recmem.next) ∧ 8 = s.recmem.next ∧
    (s.recmem.recs ≠ [] ∧ 4 < 5) ∧ s.recmem.next < 9 ∧
    s.recmem.recs[1]? = some (recordOf 6 (some 100)) ∧ (recordOf 5 none).calendar = none ∧
    (s.link.rx = .hunt ∧ ([4] : List Byte).length ≤ 240 ∧
      1 < (2 : Byte).toNat ∧ (4 : Byte).toNat ≠ 2 ∧ (4 : Byte).toNat ≠ 3) := by decide

/-- A frame of ARCHIVE_SEEK with a form outside its list is answered INVALID, with the cursor unchanged
and the place in the reply (R176). -/
theorem test_archive_seek_invalid :
    let a := State.answerFrame 0x70 1 [4] true (archived (some 6))
    a.state = archived (some 6) ∧ a.code = .invalid ∧
    a.body = .seek { cursor := some 6, oldest := some 5, newest := some 7, next := 8 } false := by
  decide

theorem witness_ArchiveReadsInOrder :
    (archived none).ready ∧ (archived none).recmem.sound ∧ (archived none).recmem.cursor = none ∧
    (archived (some 7)).ready ∧ (archived (some 7)).recmem.sound ∧
    (archived (some 7)).recmem.cursor = some 7 ∧ State.reset.recmem.recs = [] ∧
    State.reset.recmem.sound ∧ (archived none).recmem.recs ≠ [] := by decide

theorem witness_ResultReadAnswered :
    let s : State := { State.reset with recmem := State.reset.recmem.setSlot 8 (some (resultOf 4)) }
    s.ready ∧ s.recmem.slots.length = 8 ∧ (1 ≤ 8 ∧ 8 ≤ 8) ∧ s.recmem.slot 8 = some (resultOf 4) ∧
    s.recmem.slot 1 = none ∧ (1 ≤ 1 ∧ 1 ≤ 32) ∧ (1 ≤ 32 ∧ 32 ≤ 32) ∧ ¬ (1 ≤ 0) ∧ ¬ (33 ≤ 32) ∧
    ∀ k q, s.recmem.slot k = some q → q.header.runNumber = 4 ∧ k ≤ 8 := by
  refine ⟨by decide, by decide, by decide, by decide, by decide, by decide, by decide, by decide,
    by decide, fun k q h => ?_⟩
  match k with
  | 0 => cases h
  | 8 => cases h; decide
  | 1 | 2 | 3 | 4 | 5 | 6 | 7 => cases h
  | k + 9 => cases h

theorem witness_ReadingRequestsReport :
    let s (f : Int) : State :=
      { State.reset with
        stage :=
          { State.reset.stage with
            shaft := .healthy, meas := some { freq := f, n := 1024, mono := 0 } } }
    State.reset.ready ∧ State.reset.stage.shaft = .unreferenced ∧ State.reset.stage.meas = none ∧
    ((s 140000).stage.shaft ≠ .unreferenced ∧
      (s 140000).num .pressureFMin ≤ 140000 ∧ 140000 ≤ (s 140000).num .pressureFMax) ∧
    (139999 : Int) < (s 139999).num .pressureFMin ∧
    settingOfCode 0x0300 = some .floatCircumference ∧ settingOfCode 0x0309 = none ∧
    ((planned .reset).plan.header = some smallHeader ∧ smallHeader.name.length ≤ 12 ∧
      (∀ p ∈ (planned .reset).plan.slots, p = none) ∧ (planned .reset).plan.slots.length ≤ 6) ∧
    (1 ≤ 1 ∧ 1 ≤ 32 ∧ 1 ≤ 32 ∧ 32 ≤ 32) := by decide

theorem witness_NoticesQueuedAndTaken :
    let line : Notice := .line (.ofByte 0x40)
    let power := State.reset.link.queue
    (∀ m ∈ power, m.kind ≠ line.kind) ∧ (∀ x ∈ power, x.kind ≠ line.kind) ∧
    line.kind = (Notice.line (.ofByte 0x80)).kind ∧ State.reset.ready ∧ power ≠ [] ∧
    (after [.takeNotice 0, .replySent] .reset).ready ∧
    (after [.takeNotice 0, .replySent] .reset).link.queue = [] := by decide

theorem witness_FramesDiscardedOrUnknown :
    let s := after [.frameByteReceived 0xC3 true] .reset
    let asked := after [.restart 0] .reset
    let told := after [.getTime 0] .reset
    s.powered = true ∧ s.link.rx = .receiving [] 0 ∧ s.link.reply = none ∧
    State.reset.link.rx = .hunt ∧ (after [.stop 1] .reset).link.reply.isSome = true ∧
    240 < (241 : Byte).toNat ∧ (0x80 : Byte) ≤ 0x80 ∧ State.reset.ready ∧
    listedKind 0x03 = false ∧ State.reset.link.reply = none ∧
    (told.powered = true ∧ told.link.reply.isSome = true ∧ told.link.restart = false) ∧
    (asked.powered = true ∧ asked.link.reply.isSome = true ∧ asked.link.restart = true) := by decide

theorem witness_FrameBytesServeRequest :
    let i : Instr := .putVertical 9 32 (.metered (-2147483648) 5 65535 255)
    i.wf = true ∧ writesAs i true ∧ (encodeRequest i).isSome = true ∧ State.reset.ready ∧
    State.reset.link.rx = .hunt := by
  exact ⟨by decide, trivial, by decide, by decide, by decide⟩

theorem witness_RequestEncodingRoundTrip :
    let i : Instr := .setIdentity 9 0xFFFF true
    i.wf = true ∧ writesAs i true ∧
    encodeRequest i = some (0x7E, 9, [0xFF, 0xFF]) := by
  exact ⟨by decide, rfl, by decide⟩

/-- One step from a state that meets every invariant. -/
theorem witness_invariants :
    let s : State := { State.reset with pending := [.multiplierLock] }
    s.time.sound ∧ s.countsSound ∧ s.driveSound ∧ s.noticesSound ∧ s.lockoutSound ∧
    (s.warningSound ∧ s.rating.sound ∧ s.recmem.sound ∧ s.stageSound ∧ s.planSound) ∧
    step s = .next locked :=
  ⟨by decide, by decide, by decide, by decide, by decide, by decide, rfl⟩

theorem witness_settings_sound : State.reset.settingsSound := by decide +kernel

/-- A region of 8 000 records from 5 on is sound, with the cursor on its oldest. -/
theorem witness_IntervalRecordsKeptInOrder_full :
    let r : RecordMemory :=
      { State.reset.recmem with
        recs := (List.range' 5 8000).map fun n => recordOf n none, next := 8005, cursor := some 5 }
    r.sound ∧ r.recs.length = 8000 ∧ r.next ≤ 4294967295 ∧
      r.cursor = some (r.next - r.recs.length) := by
  refine ⟨⟨?_, ?_, ?_, ?_, ?_, ?_⟩, ?_, ?_, ?_⟩ <;>
    simp [Config.archiveSize, Config.max32, RecordMemory.cursorHeld, recordOf, Function.comp_def,
      State.reset]

end Sys2Proof.Tests
end

section
/-! SUPPORT. Settings in their ranges: what a copy that meets the ranges and the checks of the owners gives,
and that a value admitted by PUT_SETTING keeps it so (R3, R39, R56, R81, R126, R151, R189). -/

namespace Sys2Proof.Machine

open Sys2Proof.Config

/-! A sound copy. -/

/-- The parts of a sound copy, check by check. -/
structure Settings.Checked (t : Settings) : Prop where
  length : t.vals.length = 99
  legal : ∀ i : SettingId, i.kind.legal (t.get i) = true
  grid : t.gridFits = true
  band : t.num .pressureFMin < t.num .pressureFMax
  stages : ascending [t.get .watchStageOn, t.get .warningStageOn, t.get .severeStageOn] = true
  rises : ascending [t.get .watchRiseOn, t.get .warningRiseOn, t.get .severeRiseOn] = true
  flows : ascending [t.get .watchFlowOn, t.get .warningFlowOn, t.get .severeFlowOn] = true
  depths : t.depthsFit = true
  breaks : t.num .meterBreak1 < t.num .meterBreak2

theorem Settings.sound_iff {t : Settings} : t.sound = true ↔ t.Checked := by
  have all_legal : (allSettings.all fun i => i.kind.legal (t.get i)) = true ↔
      ∀ i : SettingId, i.kind.legal (t.get i) = true := by
    rw [List.all_eq_true]
    exact ⟨fun h i => h i (List.mem_of_getElem? i.at_place), fun h i _ => h i⟩
  unfold Settings.sound
  simp only [Bool.and_eq_true, all_legal, and_assoc, decide_eq_true_eq]
  constructor
  · rintro ⟨length, legal, grid, band, stages, rises, flows, depths, breaks⟩
    exact ⟨length, legal, grid, band, stages, rises, flows, depths, breaks⟩
  · rintro ⟨length, legal, grid, band, stages, rises, flows, depths, breaks⟩
    exact ⟨length, legal, grid, band, stages, rises, flows, depths, breaks⟩

theorem Settings.defaults_sound : Settings.defaults.sound = true := by decide +kernel

/-- A number of a sound copy lies in its setting's range. -/
theorem Settings.Checked.num_range {t : Settings} (h : t.Checked) {i : SettingId} {lo hi : Int}
    (k : i.kind = .num lo hi) : lo ≤ t.num i ∧ t.num i ≤ hi := by
  have l := h.legal i
  rw [k] at l
  unfold Settings.num
  cases v : t.get i with
  | none => rw [v] at l; cases l
  | some x => rw [v] at l; exact of_decide_eq_true l

/-! A value written. -/

/-- A check that reads its owners' settings alone, and is the structural check of each of them, holds
after a value is written that passes the structural check of its own setting. -/
theorem Settings.check_put {P : Settings → Prop} {t : Settings} {i : SettingId} {v : Option Int}
    (owners : List SettingId) (reads : ∀ u, (∀ j ∈ owners, u.get j = t.get j) → P t → P u)
    (owned : ∀ j ∈ owners, ∀ u : Settings, u.fits j = true → P u)
    (fits : (t.put i v).fits i = true) (before : P t) : P (t.put i v) := by
  by_cases h : i ∈ owners
  · exact owned i h _ fits
  · exact reads _ (fun j hj => Settings.get_put_ne t v (ne_of_mem_of_not_mem hj h)) before

theorem SettingKind.legal_of_accept {k : SettingKind} {v w : Option Int} {c : Bool}
    (range : ∀ lo hi, k = .num lo hi ∨ k = .threshold lo hi → lo ≤ hi)
    (h : k.accept v = some (w, c)) : k.legal w = true := by
  unfold SettingKind.accept at h
  split at h
  · next lo hi x =>
    cases h
    exact decide_eq_true (clampInt_range (range lo hi (.inl rfl)) x)
  · next lo hi x =>
    cases h
    exact decide_eq_true (clampInt_range (range lo hi (.inr rfl)) x)
  · cases h; rfl
  · split at h
    · next l => cases h; exact l
    · cases h

/-- The ranges of R3 are not empty. -/
theorem SettingId.range_le (i : SettingId) :
    ∀ lo hi, i.kind = .num lo hi ∨ i.kind = .threshold lo hi → lo ≤ hi := by
  cases i <;> simp +decide [SettingId.kind]

/-- A value within its range that passes its owner's check keeps the copy sound. -/
theorem Settings.Checked.put {t : Settings} (h : t.Checked) {i : SettingId} {v : Option Int}
    (legal : i.kind.legal v = true) (fits : (t.put i v).fits i = true) : (t.put i v).Checked where
  length := (Settings.put_length t i v).trans h.length
  legal j := by
    by_cases e : j = i
    · subst e
      rw [Settings.get_put_same t j v h.length]
      exact legal
    · rw [Settings.get_put_ne t v e]
      exact h.legal j
  grid := Settings.check_put (P := fun t => t.gridFits = true)
    [.baseInterval, .stormDivisor] (fun u e k => by
      simp only [Settings.gridFits, Bool.and_eq_true, decide_eq_true_eq] at k ⊢
      simpa [Settings.nat, Settings.num, e] using k)
    (by simp [Settings.fits]) fits h.grid
  band := Settings.check_put (P := fun t => t.num .pressureFMin < t.num .pressureFMax)
    [.pressureFMin, .pressureFMax] (fun u e k => by simpa [Settings.num, e] using k)
    (by simp [Settings.fits]) fits h.band
  stages := Settings.check_put (P := fun t =>
      ascending [t.get .watchStageOn, t.get .warningStageOn, t.get .severeStageOn] = true)
    [.watchStageOn, .warningStageOn, .severeStageOn] (fun u e k => by simpa [e] using k)
    (by simp [Settings.fits]) fits h.stages
  rises := Settings.check_put (P := fun t =>
      ascending [t.get .watchRiseOn, t.get .warningRiseOn, t.get .severeRiseOn] = true)
    [.watchRiseOn, .warningRiseOn, .severeRiseOn] (fun u e k => by simpa [e] using k)
    (by simp [Settings.fits]) fits h.rises
  flows := Settings.check_put (P := fun t =>
      ascending [t.get .watchFlowOn, t.get .warningFlowOn, t.get .severeFlowOn] = true)
    [.watchFlowOn, .warningFlowOn, .severeFlowOn] (fun u e k => by simpa [e] using k)
    (by simp [Settings.fits]) fits h.flows
  depths := Settings.check_put (P := fun t => t.depthsFit = true)
    [.meterHeight, .oneMin, .twoMin, .threeMin] (fun u e k => by
      simp only [Settings.depthsFit, Bool.and_eq_true, decide_eq_true_eq] at k ⊢
      simpa [Settings.num, e] using k)
    (by simp [Settings.fits]) fits h.depths
  breaks := Settings.check_put (P := fun t => t.num .meterBreak1 < t.num .meterBreak2)
    [.meterBreak1, .meterBreak2] (fun u e k => by simpa [Settings.num, e] using k)
    (by simp [Settings.fits]) fits h.breaks

end Sys2Proof.Machine
end

section
/-! SUPPORT. What PUT_SETTING does at once, and what it leaves: its effects reach the channels, the drive,
the run, the Warning Unit and the grid, and touch no copy of the settings, no clock and no record. -/

namespace Sys2Proof.Machine

open Sys2Proof.Config

/-- From s to t nothing has changed of the settings, the clock, the rating, the flash, the identity, the
history and the interval records, nor O_p. -/
structure WriteLeaves (s t : State) : Prop where
  settings : t.settings = s.settings
  pressOffset : t.stage.pressOffset = s.stage.pressOffset
  stored : t.stored = s.stored
  flash : t.flash = s.flash
  identity : t.identity = s.identity
  time : t.time = s.time
  rating : t.rating = s.rating
  history : t.history = s.history
  recs : t.recmem.recs = s.recmem.recs

namespace WriteLeaves

theorem refl (s : State) : WriteLeaves s s := by constructor <;> rfl

theorem trans {s t u : State} (h : WriteLeaves s t) (k : WriteLeaves t u) : WriteLeaves s u :=
  ⟨k.settings.trans h.settings, k.pressOffset.trans h.pressOffset, k.stored.trans h.stored,
    k.flash.trans h.flash, k.identity.trans h.identity, k.time.trans h.time,
    k.rating.trans h.rating, k.history.trans h.history, k.recs.trans h.recs⟩

theorem ofRun {s t : State} (h : RunLeaves s t) : WriteLeaves s t :=
  ⟨h.settings, congrArg (·.pressOffset) h.stage, h.stored, h.flash, h.identity, h.time, h.rating,
    h.history, h.recs⟩

theorem ite {s t u : State} {p : Prop} [Decidable p] (h : WriteLeaves s t) (k : WriteLeaves s u) :
    WriteLeaves s (if p then t else u) := by
  split
  · exact h
  · exact k

theorem raise (s : State) (n : Notice) : WriteLeaves s (s.raise n) := ofRun (RunLeaves.raise s n)

/-! The encoders (R23, R24, R36, R101). -/

theorem shaftMeaning (s : State) : WriteLeaves s s.shaftMeaning := by
  unfold State.shaftMeaning State.setShaft
  exact ite (by constructor <;> rfl) (trans (by constructor <;> rfl) (raise _ _))

theorem dropPhase (s : State) : WriteLeaves s s.dropPhase := by constructor <;> rfl

theorem copyFloat (s : State) : WriteLeaves s s.copyFloat := by constructor <;> rfl

theorem configureChannel (s : State) (ch : Chan) : WriteLeaves s (s.configureChannel ch) := by
  cases ch <;> constructor <;> rfl

theorem axisChanged (s : State) (ax : Axis) : WriteLeaves s (s.axisChanged ax) :=
  ofRun ((RunLeaves.axisMeaning s ax).trans (RunLeaves.report _))

theorem encoderWritten (s : State) (ch : Chan) : WriteLeaves s (s.encoderWritten ch) := by
  unfold State.encoderWritten
  refine ite (trans (configureChannel s ch) ?_) (configureChannel s ch)
  split
  · exact trans (dropPhase _) (shaftMeaning _)
  · exact axisChanged _ _

theorem linesWritten (s : State) (b : Bool) : WriteLeaves s (s.linesWritten b) :=
  ite (trans (copyFloat s) (trans (dropPhase _) (shaftMeaning _))) (copyFloat s)

theorem circWritten (s : State) (b : Bool) : WriteLeaves s (s.circWritten b) :=
  ite (trans (copyFloat s) (shaftMeaning _)) (copyFloat s)

/-! Contacts (R29 to R31). -/

theorem modContact (s : State) (i : Contact) (f : ContactLine → ContactLine) :
    WriteLeaves s (s.modContact i f) := by constructor <;> rfl

theorem capture (s : State) (i : Contact) (b : Bool) : WriteLeaves s (s.capture i b) :=
  ite (ite (trans (modContact s i _) (raise _ _)) (modContact s i _)) (refl s)

theorem contactEdge (s : State) (i : Contact) (b : Bool) : WriteLeaves s (s.contactEdge i b) := by
  refine trans ?_ (capture _ i b)
  exact ite (trans (modContact s i _) (ofRun (((RunLeaves.driveEdge _ _ _).trans
    (RunLeaves.report _)).trans (RunLeaves.runEdge _ _ _)))) (modContact s i _)

theorem debounceIfDue (s : State) (i : Contact) : WriteLeaves s (s.debounceIfDue i) := by
  unfold State.debounceIfDue State.debounced
  split
  · refine ite ?_ (refl s)
    split
    · exact contactEdge s i _
    · exact refl s
  · exact refl s

/-! Levels and the grid (R57, R89 to R91, R94). -/

theorem refreshPeriod (s : State) : WriteLeaves s s.refreshPeriod :=
  ite (refl s) (by constructor <;> rfl)

theorem levelChanged (s : State) (old : Level) (c : LevelCause) (m : Kinds) (w : Option WarnSample) :
    WriteLeaves s (s.levelChanged old c m w) := by
  unfold State.levelChanged
  have acked : WriteLeaves s
      ({ s with warn := { s.warn with ack := s.warn.ack.lower s.warn.current } }.startSlot 0) := by
    constructor <;> rfl
  exact ite (refl s) (trans (trans (trans acked (refreshPeriod _))
    (ite (refl _) (ofRun (RunLeaves.lockoutChanged _ _)))) (raise _ _))

theorem reconcile (s : State) (e : EnabledLevels) : WriteLeaves s (s.reconcile e) :=
  ite (refl s) (trans (by constructor <;> rfl) (levelChanged _ _ _ _ _))

theorem lockoutWritten (s : State) (b : Bool) : WriteLeaves s (s.lockoutWritten b) :=
  ite (refl s) (ofRun (RunLeaves.lockoutChanged _ _))

theorem silence (s : State) : WriteLeaves s s.silence := ite (refl s) (by constructor <;> rfl)

theorem toleranceChanged (s : State) : WriteLeaves s s.toleranceChanged :=
  ite (by constructor <;> rfl) (refl s)

/-- Every setting but pressure_offset, which brings its value into O_p (R40). -/
theorem settingWritten (s old : State) {i : SettingId} (h : i ≠ .pressureOffset) :
    WriteLeaves s (s.settingWritten old i) := by
  cases i with
  | floatMultiplier | floatDirection => exact encoderWritten s .float
  | travelMultiplier | travelDirection => exact encoderWritten s .travel
  | reelMultiplier | reelDirection => exact encoderWritten s .reel
  | floatIndexMode => exact ite (dropPhase s) (refl s)
  | debounceSurface => exact debounceIfDue s .surface
  | debounceBed => exact debounceIfDue s .bed
  | debounceReelTop => exact debounceIfDue s .reelTop
  | debounceLimitNear => exact debounceIfDue s .limitNear
  | debounceLimitFar => exact debounceIfDue s .limitFar
  | debounceDriveFault => exact debounceIfDue s .driveFault
  | debounceDoor => exact debounceIfDue s .door
  | debounceSpare => exact debounceIfDue s .spare
  | floatLines => exact linesWritten s _
  | floatCircumference => exact circWritten s _
  | pressureOffset => exact absurd rfl h
  | baseInterval | stormDivisor | stormLevel => exact refreshPeriod s
  | watchStageOn | watchRiseOn | watchFlowOn | warningStageOn | warningRiseOn | warningFlowOn
  | severeStageOn | severeRiseOn | severeFlowOn => exact reconcile s _
  | lockoutLevel => exact lockoutWritten s _
  | sirenLevel => exact silence s
  | travelCircumference | travelLines => exact ite (axisChanged s .travel) (refl s)
  | reelCircumference | reelLines => exact ite (axisChanged s .reel) (refl s)
  | positionTolerance => exact ite (toleranceChanged s) (refl s)
  | _ => exact refl s

end WriteLeaves

end Sys2Proof.Machine
end

section
/-! PROOF. PUT_SETTING: what is refused, and what an admitted value comes to (R189). -/

namespace Sys2Proof.Machine

open Sys2Proof.Config

/-- The values that R189 refuses before any structural check. -/
def SettingKind.Refuses : SettingKind → Option Int → Prop
  | .threshold _ _, _ => False
  | _, none => True
  | .num _ _, some _ => False
  | .oneOf l, some x => x ∉ l
  | .choice n, some x => x < 0 ∨ (n : Int) ≤ x
  | .pattern, some x => x < 0 ∨ 65536 ≤ x

/-- The value that stands after an admitted write: a number brought into its range (R3). -/
def SettingKind.broughtIn : SettingKind → Option Int → Option Int
  | .num lo hi, some x => some (max lo (min hi x))
  | .threshold lo hi, some x => some (max lo (min hi x))
  | _, x => x

theorem SettingKind.accept_refused {k : SettingKind} {v : Option Int} (h : k.Refuses v) :
    k.accept v = none := by
  cases v with
  | none =>
    cases k with
    | threshold lo hi => cases h
    | _ => rfl
  | some x =>
    cases k with
    | num lo hi => cases h
    | threshold lo hi => cases h
    | oneOf l =>
      have e : x ∉ l := h
      simp [SettingKind.accept, SettingKind.legal, e]
    | choice n =>
      have e : ¬ (0 ≤ x ∧ x < n) := by
        have : x < 0 ∨ (n : Int) ≤ x := h
        omega
      simp only [SettingKind.accept, SettingKind.legal, e, decide_false, Bool.false_eq_true, if_false]
    | pattern =>
      have e : ¬ (0 ≤ x ∧ x < 65536) := by
        have : x < 0 ∨ 65536 ≤ x := h
        omega
      simp only [SettingKind.accept, SettingKind.legal, e, decide_false, Bool.false_eq_true, if_false]

theorem SettingKind.accept_admitted {k : SettingKind} {v : Option Int} (h : ¬ k.Refuses v) :
    k.accept v = some (k.broughtIn v, decide (k.broughtIn v ≠ v)) := by
  cases v with
  | none =>
    cases k with
    | threshold lo hi => rfl
    | _ => exact absurd trivial h
  | some x =>
    have clamped (lo hi : Int) : decide (clampInt lo hi x ≠ x) =
        decide (some (clampInt lo hi x) ≠ some x) := decide_eq_decide.2 (by simp)
    cases k with
    | num lo hi => exact congrArg (fun c => some (some (clampInt lo hi x), c)) (clamped lo hi)
    | threshold lo hi => exact congrArg (fun c => some (some (clampInt lo hi x), c)) (clamped lo hi)
    | oneOf l =>
      have e : x ∈ l := Decidable.not_not.1 h
      simp [SettingKind.accept, SettingKind.legal, SettingKind.broughtIn, e]
    | choice n =>
      have e : 0 ≤ x ∧ x < n := by
        have : ¬ (x < 0 ∨ (n : Int) ≤ x) := h
        omega
      simp [SettingKind.accept, SettingKind.legal, SettingKind.broughtIn, e]
    | pattern =>
      have e : 0 ≤ x ∧ x < 65536 := by
        have : ¬ (x < 0 ∨ 65536 ≤ x) := h
        omega
      simp [SettingKind.accept, SettingKind.legal, SettingKind.broughtIn, e]

theorem Settings.write_refused {t : Settings} {i : SettingId} {v : Option Int}
    (h : i.kind.Refuses v ∨ (t.put i (i.kind.broughtIn v)).fits i = false) : t.write i v = none := by
  unfold Settings.write
  by_cases r : i.kind.Refuses v
  · rw [SettingKind.accept_refused r]
  · rw [SettingKind.accept_admitted r]
    simp [h.resolve_left r]

theorem Settings.write_admitted {t : Settings} {i : SettingId} {v : Option Int}
    (h : ¬ i.kind.Refuses v) (k : (t.put i (i.kind.broughtIn v)).fits i = true) :
    t.write i v =
      some (t.put i (i.kind.broughtIn v), decide (i.kind.broughtIn v ≠ v)) := by
  unfold Settings.write
  rw [SettingKind.accept_admitted h]
  simp [k]

/-! The request as a command. -/

theorem exec_putSetting {s : State} (h : s.ready) (tag : Byte) (id : BitVec 16) (v : Option Int) :
    exec (.putSetting tag id v) s =
      .next ((s.reqPutSetting id v).state.replied 0x21 tag (s.reqPutSetting id v).code
        (s.reqPutSetting id v).body) :=
  congrArg _ (State.serve_ready h 0x21 tag fun t => t.reqPutSetting id v)

theorem State.reqPutSetting_unlisted (s : State) {id : BitVec 16} (v : Option Int)
    (h : settingOfCode id = none) : s.reqPutSetting id v = s.plain .notFound := by
  simp only [State.reqPutSetting, h]

theorem State.reqPutSetting_refused {s : State} {id : BitVec 16} {i : SettingId} {v : Option Int}
    (h : settingOfCode id = some i) (k : s.settings.write i v = none) :
    s.reqPutSetting id v = s.plain .invalid := by
  simp only [State.reqPutSetting, h, k]

theorem State.reqPutSetting_admitted {s : State} {id : BitVec 16} {i : SettingId} {v : Option Int}
    {t : Settings} {c : Bool} (h : settingOfCode id = some i)
    (k : s.settings.write i v = some (t, c)) :
    s.reqPutSetting id v =
      ({ s with settings := t }.settingWritten s i).answered c (.storedSetting (t.get i)) := by
  simp only [State.reqPutSetting, h, k]

/-- What every written setting leaves: pressure_offset brings its value into O_p, the others leave it
(R40). -/
theorem WriteLeaves.written (s old : State) (i : SettingId) :
    WriteLeaves
      { s with
        stage :=
          { s.stage with
            pressOffset :=
              if i = .pressureOffset then s.num .pressureOffset else s.stage.pressOffset } }
      (s.settingWritten old i) := by
  by_cases h : i = .pressureOffset
  · subst h
    exact refl _
  · simpa only [if_neg h] using settingWritten s old h

/-- Settles O39: the admission of a value case by case, and the frame of its effects. -/
theorem settingWrittenAsAdmitted : Obligations.SettingWrittenAsAdmitted := by
  unfold Obligations.SettingWrittenAsAdmitted
  intro tag id v s ready
  rw [exec_putSetting ready]
  refine ⟨fun unlisted => by rw [State.reqPutSetting_unlisted s v unlisted]; rfl,
    fun i listed => ⟨fun refused => ?_, fun admitted fits length => ?_⟩⟩
  · rw [State.reqPutSetting_refused listed (Settings.write_refused refused)]
    rfl
  · rw [State.reqPutSetting_admitted listed (Settings.write_admitted admitted fits),
      Settings.get_put_same _ _ _ length]
    obtain ⟨settings, offset, stored, flash, identity, time, rating, history, recs⟩ :=
      WriteLeaves.written { s with settings := s.settings.put i (i.kind.broughtIn v) } s i
    have code : (if decide (i.kind.broughtIn v ≠ v) then ReplyCode.clamped else .ok) =
        if i.kind.broughtIn v = v then .ok else .clamped := by
      by_cases h : i.kind.broughtIn v = v <;> simp [h]
    have value := Settings.get_put_same s.settings i (i.kind.broughtIn v) length
    refine ⟨State.settingWritten { s with settings := s.settings.put i (i.kind.broughtIn v) } s i,
      ?_, settings, ?_, fun j hj => ?_, fun h => ?_, fun h => ?_, stored, flash, identity, time,
      rating, history, recs⟩
    · exact congrArg (fun c => Host.Outcome.next (State.replied _ 0x21 tag c (.storedSetting _))) code
    · rw [settings]
      exact value
    · rw [settings]
      exact Settings.get_put_ne _ _ hj
    · subst h
      rw [offset, if_pos rfl]
      exact congrArg (·.getD 0) value
    · rw [offset, if_neg h]

end Sys2Proof.Machine
end

section
/-! SUPPORT. The start-up that COLD and WARM share: the results closed, the latches reconciled, the encoders
configured, the first cadence slot and the grid (R23, R24, R36, R61, R92, R97, R149). -/

namespace Sys2Proof.Machine

open Sys2Proof.Config

/-! The operations of the start-up, each in one equation. -/

/-- A result closed: written as ABORTED by POWER, and its RUN notice raised (R149, R150). -/
theorem State.finaliseSlot_held {s : State} {n : Nat} {r : RunResult} (h : s.recmem.slot n = some r)
    (e : Option RunTime) :
    ∃ m, s.finaliseSlot n e =
      { s with recmem := s.recmem.setSlot n (some (r.poweredOff e)) }.raise (.run m) := by
  unfold State.finaliseSlot
  rw [h]
  exact ⟨_, rfl⟩

theorem State.finaliseSlot_empty {s : State} {n : Nat} (h : s.recmem.slot n = none)
    (e : Option RunTime) : s.finaliseSlot n e = s := by
  unfold State.finaliseSlot
  rw [h]

/-- The shaft UNREFERENCED, with its SENSOR notice where it was not so before (R36, R54). -/
theorem State.shaftMeaning_cases (s : State) :
    s.shaftMeaning = { s with stage := { s.stage with shaft := .unreferenced } } ∨
    ∃ m, s.shaftMeaning =
      { s with stage := { s.stage with shaft := .unreferenced } }.raise (.sensor m) := by
  unfold State.shaftMeaning State.setShaft
  dsimp only
  split
  · exact .inl rfl
  · exact .inr ⟨_, rfl⟩

/-- A run that is not under way takes no change of lockout (R141). -/
theorem State.lockoutChanged_idle {s : State} (h : s.run.phase = .idle) (b : Bool) :
    s.lockoutChanged b = s := by
  unfold State.lockoutChanged State.addHold
  simp [h, Phase.working]

theorem State.levelChanged_same {s : State} {old : Level} (h : s.warn.current = old)
    (c : LevelCause) (m : Kinds) (w : Option WarnSample) : s.levelChanged old c m w = s := if_pos h

/-- A change of level while no run is under way: the acknowledged level, the cadence, the grid and the
LEVEL notice (R87, R88). -/
theorem State.levelChanged_idle {s : State} (h : s.run.phase = .idle) {old : Level}
    (k : s.warn.current ≠ old) (c : LevelCause) (m : Kinds) (w : Option WarnSample) :
    ∃ n : LevelNotice, n.from_ = old ∧ n.to_ = s.warn.current ∧ n.cause = c ∧
      s.levelChanged old c m w =
        (({ s with warn := { s.warn with ack := s.warn.ack.lower s.warn.current } }.startSlot
          0).refreshPeriod).raise (.level n) := by
  unfold State.levelChanged
  rw [if_neg k]
  have idle : (({ s with warn := { s.warn with ack := s.warn.ack.lower s.warn.current } }.startSlot
      0).refreshPeriod).run.phase = .idle := by simpa using h
  simp only [State.lockoutChanged_idle idle, ite_self]
  exact ⟨_, rfl, rfl, rfl, rfl⟩

/-! The results closed (R149). -/

/-- s with what closing results writes of t: the result slots, the marker's flag, the notices and ATTN. -/
def State.withResults (s t : State) : State :=
  { s with
    recmem := { s.recmem with slots := t.recmem.slots }
    marker := { s.marker with active := t.marker.active }
    link := { s.link with queue := t.link.queue }
    outs := { s.outs with attn := t.outs.attn } }

/-- From s to t results have been closed: their slots, the marker's flag and the notices are written;
the flag is not set, ATTN stays asserted, a POWER notice stays at the head of the queue, and no LEVEL
notice enters it. -/
structure ResultsClosed (s t : State) : Prop where
  frame : t = s.withResults t
  inactive : s.marker.active = false → t.marker.active = false
  attn : s.outs.attn = true → t.outs.attn = true
  head : ∀ p, s.link.queue.head? = some (.power p) → t.link.queue.head? = some (.power p)
  noLevel : .level ∉ s.link.queue.map Notice.kind → .level ∉ t.link.queue.map Notice.kind

/-- A notice of another kind leaves a POWER notice at the head. -/
theorem enqueue_head_power {n : Notice} (h : n.kind ≠ .power) {q : List Notice} {p : PowerNotice}
    (k : q.head? = some (.power p)) : (enqueue n q).head? = some (.power p) := by
  cases q with
  | nil => cases k
  | cons m q =>
    cases Option.some.inj k
    have other : (Notice.power p).kind ≠ n.kind := fun e => h e.symm
    simp only [enqueue, if_neg other, List.head?_cons]

namespace ResultsClosed

theorem refl (s : State) : ResultsClosed s s := ⟨rfl, id, id, fun _ h => h, id⟩

theorem trans {s t u : State} (h : ResultsClosed s t) (k : ResultsClosed t u) :
    ResultsClosed s u :=
  ⟨k.frame.trans (congrArg (·.withResults u) h.frame), fun a => k.inactive (h.inactive a),
    fun a => k.attn (h.attn a), fun p e => k.head p (h.head p e), fun e => k.noLevel (h.noLevel e)⟩

theorem raiseRun (s : State) (m : RunNotice) : ResultsClosed s (s.raise (.run m)) := by
  cases powered : s.powered with
  | false => rw [State.raise_unpowered powered]; exact refl s
  | true =>
    rw [State.raise_powered powered]
    refine ⟨rfl, id, fun _ => rfl, fun _ => enqueue_head_power (by nofun), fun none => ?_⟩
    rw [enqueue_kinds]
    split
    · exact none
    · simpa [Notice.kind] using none

theorem finaliseSlot (s : State) (n : Nat) (e : Option RunTime) :
    ResultsClosed s (s.finaliseSlot n e) := by
  cases h : s.recmem.slot n with
  | none =>
    rw [State.finaliseSlot_empty h]
    exact refl s
  | some r =>
    obtain ⟨m, closed⟩ := State.finaliseSlot_held h e
    have written : ResultsClosed s
        { s with recmem := s.recmem.setSlot n (some (r.poweredOff e)) } :=
      ⟨rfl, id, id, fun _ h => h, id⟩
    rw [closed]
    exact trans written (raiseRun _ m)

theorem finaliseRunning (s : State) (e : Option RunTime) :
    ResultsClosed s (s.finaliseRunning e) := by
  unfold State.finaliseRunning
  generalize List.range 8 = l
  induction l generalizing s with
  | nil => exact refl s
  | cons i l ih =>
    rw [List.foldl_cons]
    refine trans ?_ (ih _)
    split
    · exact finaliseSlot s _ _
    · exact refl s

theorem finaliseMarked (s : State) (e : Option RunTime) :
    ResultsClosed s (s.finaliseMarked e) := by
  have clear (t : State) : ResultsClosed t t.clearMarker :=
    ⟨rfl, fun _ => rfl, id, fun _ h => h, id⟩
  unfold State.finaliseMarked
  split
  · exact trans (finaliseSlot s _ _) (clear _)
  · exact refl s

/-- No run is in progress afterwards. -/
theorem finaliseMarked_inactive (s : State) (e : Option RunTime) :
    (s.finaliseMarked e).marker.active = false := by
  unfold State.finaliseMarked
  split
  · rfl
  · next idle => exact Bool.eq_false_iff.2 idle

end ResultsClosed

/-! What the start-up writes. -/

/-- s with what the start-up writes of t: the channels, the index phase, the shaft state and the copies of
its meaning, the levels, the grid, the marker's flag, the result slots, the notices, SIREN, BEACON and
ATTN. -/
def State.withStartup (s t : State) : State :=
  { s with
    float := t.float, travel := t.travel, reel := t.reel, index := t.index
    outs := { s.outs with siren := t.outs.siren, beacon := t.outs.beacon, attn := t.outs.attn }
    stage :=
      { s.stage with
        shaft := t.stage.shaft, linesCopy := t.stage.linesCopy, circCopy := t.stage.circCopy }
    samp := { s.samp with period := t.samp.period, next := t.samp.next }
    warn := { t.warn with slot := s.warn.slot }
    marker := { s.marker with active := t.marker.active }
    recmem := { s.recmem with slots := t.recmem.slots }
    link := { s.link with queue := t.link.queue } }

/-- From s to t only the start-up has written; ATTN stays asserted and a POWER notice at the head of the
queue stays there. -/
structure Startup (s t : State) : Prop where
  frame : t = s.withStartup t
  attn : s.outs.attn = true → t.outs.attn = true
  head : ∀ p, s.link.queue.head? = some (.power p) → t.link.queue.head? = some (.power p)

/-- What the operations of the start-up find: the main domain afresh (R61, R92, R149). -/
structure State.Fresh (s : State) : Prop where
  powered : s.powered = true
  phase : s.run.phase = .idle
  slot : s.warn.slot = 0
  forming : s.samp.forming = none
  rate : s.samp.rate = none

namespace Startup

theorem refl (s : State) : Startup s s := ⟨rfl, id, fun _ h => h⟩

theorem trans {s t u : State} (h : Startup s t) (k : Startup t u) : Startup s u :=
  ⟨k.frame.trans (congrArg (·.withStartup u) h.frame), fun a => k.attn (h.attn a),
    fun p e => k.head p (h.head p e)⟩

theorem fresh {s t : State} (h : Startup s t) (f : s.Fresh) : t.Fresh := by
  rw [h.frame]
  exact ⟨f.powered, f.phase, f.slot, f.forming, f.rate⟩

/-- An update that leaves the outputs and the link. -/
theorem update {s t : State} (frame : t = s.withStartup t) (outs : t.outs = s.outs)
    (link : t.link = s.link) : Startup s t :=
  ⟨frame, fun a => outs ▸ a, fun _ e => link ▸ e⟩

theorem raise (s : State) {n : Notice} (h : n.kind ≠ .power) : Startup s (s.raise n) := by
  cases k : s.powered with
  | false => rw [State.raise_unpowered k]; exact refl s
  | true => rw [State.raise_powered k]; exact ⟨rfl, fun _ => rfl, fun _ e => enqueue_head_power h e⟩

theorem ofClosed {s t : State} (h : ResultsClosed s t) : Startup s t :=
  ⟨h.frame.trans (congrArg s.withStartup h.frame).symm, h.attn, h.head⟩

/-! The levels and the grid (R57, R61, R87, R92). -/

theorem setWarn (s : State) (u : WarningUnit) (h : u.slot = s.warn.slot) :
    Startup s { s with warn := u } :=
  update (by simp [State.withStartup, ← h]) rfl rfl

theorem startSlot {s : State} (f : s.Fresh) : Startup s (s.startSlot 0) :=
  ⟨by simp [State.withStartup, State.startSlot, State.commandSlot, f.slot], id, fun _ h => h⟩

theorem startGrid {s : State} (f : s.Fresh) : Startup s s.startGrid :=
  update (by simp [State.withStartup, State.startGrid, f.forming, f.rate]) rfl rfl

theorem refreshPeriod (s : State) : Startup s s.refreshPeriod := by
  unfold State.refreshPeriod
  dsimp only
  split
  · exact refl s
  · exact update rfl rfl rfl

/-- A change of levels while no run is under way changes the acknowledged level, the cadence and the
grid, and raises its notice (R87, R91). -/
theorem levelChanged {s : State} (f : s.Fresh) (old : Level) (c : LevelCause) (m : Kinds)
    (w : Option WarnSample) : Startup s (s.levelChanged old c m w) := by
  by_cases h : s.warn.current = old
  · rw [State.levelChanged_same h]
    exact refl s
  · obtain ⟨n, -, -, -, changed⟩ := State.levelChanged_idle f.phase h c m w
    rw [changed]
    have acked := setWarn s { s.warn with ack := s.warn.ack.lower s.warn.current } rfl
    exact trans (trans (trans acked (startSlot (acked.fresh f))) (refreshPeriod _))
      (raise _ (by nofun))

/-! The encoders (R23, R24, R36). -/

theorem configureChannel (s : State) (ch : Chan) : Startup s (s.configureChannel ch) := by
  cases ch <;> exact update rfl rfl rfl

theorem shaftMeaning (s : State) : Startup s s.shaftMeaning := by
  have shaft : Startup s { s with stage := { s.stage with shaft := .unreferenced } } :=
    update rfl rfl rfl
  obtain h | ⟨m, h⟩ := State.shaftMeaning_cases s
  · rw [h]
    exact shaft
  · rw [h]
    exact trans shaft (raise _ (by nofun))

theorem reloadEncoders (s : State) : Startup s s.reloadEncoders := by
  have drop : Startup s (if s.phaseDrops then s.dropPhase else s) := by
    split
    · exact update rfl rfl rfl
    · exact refl s
  have channels := trans (trans drop (configureChannel _ .float))
    (trans (configureChannel _ .travel) (configureChannel _ .reel))
  have copies := trans channels (update (t := State.copyFloat _) rfl rfl rfl)
  unfold State.reloadEncoders
  dsimp only
  split
  · exact trans copies (shaftMeaning _)
  · exact copies

/-! The two kinds of reset. -/

theorem fresh_mainAfresh (s : State) (k : ResetKind) : ((s.mainAfresh k).raisePower k).Fresh :=
  ⟨rfl, rfl, rfl, rfl, rfl⟩

theorem reconcileWarm {s : State} (f : s.Fresh) : Startup s s.reconcileWarm := by
  have slot : (s.warn.reconcile s.settings.enabledLevels s.settings.enabledLevels).slot =
      s.warn.slot := by
    unfold WarningUnit.reconcile
    dsimp only
    split
    · rfl
    · split <;> rfl
  have levels := setWarn s _ slot
  exact trans levels (levelChanged (levels.fresh f) _ _ _ _)

theorem slotAndGrid {s : State} (f : s.Fresh) : Startup s (s.startSlot 0).startGrid :=
  trans (startSlot f) (startGrid ((startSlot f).fresh f))

/-- After COLD has started both domains only the start-up writes (R1). -/
theorem cold (s : State) :
    Startup ((s.retentionAfresh.mainAfresh .cold).raisePower .cold) s.cold :=
  have closed := ofClosed (ResultsClosed.finaliseRunning
    ((s.retentionAfresh.mainAfresh .cold).raisePower .cold) none)
  trans closed (slotAndGrid (closed.fresh (fresh_mainAfresh _ _)))

/-- After WARM has started the main domain only the start-up writes (R1). -/
theorem warm (s : State) (k : ResetKind) :
    Startup ((s.mainAfresh k).raisePower k) (s.warm k) := by
  have fresh := fresh_mainAfresh s k
  unfold State.warm
  generalize (s.mainAfresh k).raisePower k = t at *
  have closed := ofClosed ((ResultsClosed.finaliseMarked t (some t.time.runTime)).trans
    (ResultsClosed.finaliseRunning _ (some t.time.runTime)))
  have levels := trans closed (reconcileWarm (closed.fresh fresh))
  have encoders := trans levels (reloadEncoders _)
  exact trans encoders (slotAndGrid (encoders.fresh fresh))

/-- What the main domain started afresh, and the start-up after it, make of the state: all that
`startedAs` lists. -/
theorem startedAs {s u : State} {k : ResetKind} (h : Startup ((s.mainAfresh k).raisePower k) u)
    (marker : u.marker.active = false) : s.startedAs u k := by
  have attn := h.attn rfl
  have head := h.head _ rfl
  have contacts (i : Contact) : (s.contacts.start.get i) = .start (s.contacts.get i).raw := by
    simp only [Contacts.start, Contacts.get_map]
  have slots (i : Nat) (p : PlanSlot) : (s.plan.slots.map judgeSlot)[i]? = some (some p) ↔
      s.plan.slots[i]? = some (some p) ∧ p.check = checkValue p.plan.numbers ∧
        p.plan.legal = true := by
    rw [List.getElem?_map, Option.map_eq_some_iff]
    simp only [judgeSlot_eq_some]
    exact ⟨fun ⟨_, held, rfl, judged⟩ => ⟨held, judged⟩,
      fun ⟨held, judged⟩ => ⟨_, held, rfl, judged⟩⟩
  rw [h.frame]
  refine ⟨rfl, ⟨fun _ => judgeRating_eq_some, fun _ => judgeSettings_eq_some⟩, rfl, rfl, rfl, rfl,
    rfl, rfl, rfl, rfl, rfl, rfl, rfl, marker, rfl, rfl, rfl, rfl, ⟨rfl, rfl, rfl, rfl, rfl⟩, rfl,
    rfl, ⟨List.length_map _, slots⟩, rfl, rfl, rfl, rfl, rfl, rfl, rfl, rfl, rfl, rfl, rfl, rfl,
    rfl, rfl, attn, fun i => ?_, head⟩
  have start : (((s.mainAfresh k).raisePower k).contacts.get i) = .start (s.contacts.get i).raw :=
    contacts i
  exact ⟨congrArg (·.raw) start, congrArg (·.level) start, congrArg (·.armed) start,
    congrArg (·.captured) start⟩

end Startup

/-- COLD starts the retention domain as well, which leaves the stores that `startedAs` speaks of. -/
theorem State.startedAs_retentionAfresh {s t : State} {k : ResetKind}
    (h : s.retentionAfresh.startedAs t k) : s.startedAs t k := h

end Sys2Proof.Machine
end

section
/-! SUPPORT. What the start-up comes to, part by part: the result slots, the levels, the channels, the
shaft, the notices (R23, R24, R36, R89, R97, R149). -/

namespace Sys2Proof.Machine

open Sys2Proof.Config

/-! The result slots (R149). -/

theorem RecordMemory.slot_setSlot {r : RecordMemory} {n : Nat} {q : RunResult}
    (h : r.slot n = some q) (v : Option RunResult) (m : Nat) :
    (r.setSlot n v).slot m = if m = n then v else r.slot m := by
  have used : n ≠ 0 := by
    rintro rfl
    cases h
  have held : r.slots[n - 1]? = some (some q) := by
    unfold RecordMemory.slot at h
    rwa [if_neg used, Option.join_eq_some_iff] at h
  obtain ⟨bound, -⟩ := List.getElem?_eq_some_iff.1 held
  unfold RecordMemory.slot RecordMemory.setSlot
  by_cases zero : m = 0
  · subst zero
    rw [if_pos rfl, if_pos rfl, if_neg used.symm]
  · rw [if_neg zero, if_neg zero]
    by_cases same : m = n
    · subst same
      rw [if_pos rfl, List.getElem?_set_self bound]
      rfl
    · rw [if_neg same, List.getElem?_set_ne (by omega)]

/-- The slot named is closed, the others stand. -/
theorem State.finaliseSlot_slot (s : State) (n : Nat) (e : Option RunTime) (m : Nat) :
    (s.finaliseSlot n e).recmem.slot m =
      (s.recmem.slot m).map fun r => if m = n then r.poweredOff e else r := by
  cases h : s.recmem.slot n with
  | none =>
    rw [State.finaliseSlot_empty h]
    by_cases same : m = n
    · rw [same, h]
      rfl
    · simp [same]
  | some q =>
    obtain ⟨_, closed⟩ := State.finaliseSlot_held h e
    simp only [closed, State.raise_fields, RecordMemory.slot_setSlot h]
    by_cases same : m = n
    · rw [if_pos same, same, h]
      simp
    · simp [same]

theorem RecordMemory.running_iff {r : RecordMemory} {n : Nat} :
    r.running n = true ↔ ∃ q, r.slot n = some q ∧ q.header.status = .running := by
  unfold RecordMemory.running
  cases r.slot n <;> simp

/-- One slot closed where its result is RUNNING. -/
theorem State.finaliseIfRunning_slot (s : State) (n : Nat) (e : Option RunTime) (m : Nat) :
    (if s.recmem.running n then s.finaliseSlot n e else s).recmem.slot m =
      (s.recmem.slot m).map fun r =>
        if m = n ∧ r.header.status = .running then r.poweredOff e else r := by
  by_cases running : s.recmem.running n = true
  · rw [if_pos running, State.finaliseSlot_slot]
    obtain ⟨q, held, status⟩ := RecordMemory.running_iff.1 running
    by_cases same : m = n
    · subst same
      simp [held, status]
    · simp [same]
  · rw [if_neg running]
    by_cases same : m = n
    · subst same
      rw [RecordMemory.running_iff] at running
      cases held : s.recmem.slot m with
      | none => rfl
      | some q =>
        have status : q.header.status ≠ .running := fun e => running ⟨q, held, e⟩
        simp [status]
    · simp [same]

/-- Every slot left RUNNING is closed, every other result stands. -/
theorem State.finaliseRunning_slot (s : State) (e : Option RunTime) {m : Nat} (h : m ≤ 8) :
    (s.finaliseRunning e).recmem.slot m =
      (s.recmem.slot m).map fun r =>
        if r.header.status = .running then r.poweredOff e else r := by
  have fold (l : List Nat) (t : State) :
      (l.foldl (fun t i => if t.recmem.running (i + 1) then t.finaliseSlot (i + 1) e else t)
        t).recmem.slot m =
        (t.recmem.slot m).map fun r =>
          if (∃ i ∈ l, m = i + 1) ∧ r.header.status = .running then r.poweredOff e else r := by
    induction l generalizing t with
    | nil => simp
    | cons i l ih =>
      rw [List.foldl_cons, ih, State.finaliseIfRunning_slot, Option.map_map]
      congr 1
      funext r
      by_cases running : r.header.status = .running
      · by_cases here : m = i + 1
        · simp [running, here, RunResult.poweredOff]
        · simp [running, here]
      · simp [running]
  refine (fold _ s).trans ?_
  by_cases zero : m = 0
  · subst zero
    rfl
  · have named : ∃ i ∈ List.range 8, m = i + 1 := ⟨m - 1, by simp; omega, by omega⟩
    simp only [named, true_and]

/-- The slot of the run in progress is closed, the others stand. -/
theorem State.finaliseMarked_slot (s : State) (e : Option RunTime) (m : Nat) :
    (s.finaliseMarked e).recmem.slot m =
      (s.recmem.slot m).map fun r =>
        if s.marker.active = true ∧ s.marker.slot = m then r.poweredOff e else r := by
  unfold State.finaliseMarked
  by_cases active : s.marker.active = true
  · rw [if_pos active]
    simp only [State.clearMarker_fields, State.finaliseSlot_slot, active, true_and, eq_comm]
  · simp [active]

theorem foldl_max_ge {α : Type} (f : α → Nat) (l : List α) (a : Nat) :
    a ≤ l.foldl (fun n v => max n (f v)) a ∧
      ∀ v ∈ l, f v ≤ l.foldl (fun n v => max n (f v)) a := by
  induction l generalizing a with
  | nil => simp
  | cons w l ih =>
    obtain ⟨start, rest⟩ := ih (max a (f w))
    refine ⟨Nat.le_trans (Nat.le_max_left _ _) start, fun v hv => ?_⟩
    obtain rfl | hv := List.mem_cons.1 hv
    · exact Nat.le_trans (Nat.le_max_right _ _) start
    · exact rest v hv

theorem foldl_max_attained {α : Type} (f : α → Nat) (l : List α) (a : Nat) :
    l.foldl (fun n v => max n (f v)) a = a ∨
      ∃ v ∈ l, f v = l.foldl (fun n v => max n (f v)) a := by
  induction l generalizing a with
  | nil => exact .inl rfl
  | cons w l ih =>
    rw [List.foldl_cons]
    obtain start | ⟨v, hv, e⟩ := ih (max a (f w))
    · rw [start]
      obtain le | le := Nat.le_total a (f w)
      · exact .inr ⟨w, List.mem_cons_self, (Nat.max_eq_right le).symm⟩
      · exact .inl (Nat.max_eq_left le)
    · exact .inr ⟨v, List.mem_cons_of_mem _ hv, e⟩

/-- The highest run number held bounds those of all results (R149). -/
theorem RecordMemory.le_highestRun {r : RecordMemory} {n : Nat} {q : RunResult}
    (h : r.slot n = some q) : q.header.runNumber ≤ r.highestRun := by
  have held : some q ∈ r.slots := by
    unfold RecordMemory.slot at h
    split at h
    · cases h
    · exact List.mem_of_getElem? (Option.join_eq_some_iff.1 h)
  exact (foldl_max_ge (fun v => (v.map (·.header.runNumber)).getD 0) r.slots 0).2 _ held

/-- The highest run number is that of a result, or 0 (R149). -/
theorem RecordMemory.highestRun_held (r : RecordMemory) :
    r.highestRun = 0 ∨ ∃ n q, r.slot n = some q ∧ q.header.runNumber = r.highestRun := by
  obtain zero | ⟨v, held, e⟩ :=
    foldl_max_attained (fun v => (v.map (·.header.runNumber)).getD 0) r.slots 0
  · exact .inl zero
  · cases v with
    | none => exact .inl e.symm
    | some q =>
      obtain ⟨i, at_⟩ := List.getElem?_of_mem held
      refine .inr ⟨i + 1, q, ?_, e⟩
      unfold RecordMemory.slot
      rw [if_neg (Nat.succ_ne_zero i), Nat.add_sub_cancel, at_]
      rfl

/-! The levels (R89, R97). -/

/-- The highest level that stays latched under a set of enabled levels. -/
def WarningUnit.kept (u : WarningUnit) (e : EnabledLevels) : Nat :=
  if u.severe.latched && e.severe then 3
  else if u.warning.latched && e.warning then 2
  else if u.watch.latched && e.watch then 1
  else 0

/-- The latches reconciled at a WARM: those of enabled levels stay, and every enabled level below the
highest of them is latched; the counters are at 0 (R97). -/
theorem WarningUnit.restart_reconcile (u : WarningUnit) (e : EnabledLevels) :
    u.restart.reconcile e e =
      { watch :=
          { latched := e.watch && (u.watch.latched || decide (1 < u.kept e)), entry := 0, exit := 0 }
        warning :=
          { latched := e.warning && (u.warning.latched || decide (2 < u.kept e)), entry := 0,
            exit := 0 }
        severe := { latched := u.severe.latched && e.severe, entry := 0, exit := 0 }
        ack := u.ack, slot := 0, slotAt := 0 } := by
  obtain ⟨⟨a, _, _⟩, ⟨b, _, _⟩, ⟨c, _, _⟩, _, _, _⟩ := u
  obtain ⟨x, y, z⟩ := e
  cases a <;> cases b <;> cases c <;> cases x <;> cases y <;> cases z <;> rfl

theorem WarningUnit.restart_reconcile_current (u : WarningUnit) (e : EnabledLevels) :
    (u.restart.reconcile e e).current.code = u.kept e := by
  obtain ⟨⟨a, _, _⟩, ⟨b, _, _⟩, ⟨c, _, _⟩, _, _, _⟩ := u
  obtain ⟨x, y, z⟩ := e
  cases a <;> cases b <;> cases c <;> cases x <;> cases y <;> cases z <;> rfl

end Sys2Proof.Machine
end

section
/-! PROOF. COLD (R1, R18, R23, R55, R61, R66, R96, R149, R190). -/

namespace Sys2Proof.Machine

open Sys2Proof.Config

/-- COLD after both domains are afresh: the results closed, the first slot and the grid. -/
theorem State.cold_eq {s t : State}
    (h : t = ((s.retentionAfresh.mainAfresh .cold).raisePower .cold).finaliseRunning none) :
    s.cold = ((((s.retentionAfresh.mainAfresh .cold).raisePower .cold).withResults t).startSlot
      0).startGrid := by
  have frame := (ResultsClosed.finaliseRunning
    ((s.retentionAfresh.mainAfresh .cold).raisePower .cold) none).frame
  rw [← h] at frame
  rw [← frame, h]
  rfl

/-- The period at NORMAL is base_interval (R57, R90). -/
theorem State.periodInEffect_normal {s : State} (h : s.warn.current = .normal) :
    s.periodInEffect = s.nat .baseInterval := by
  unfold State.periodInEffect State.storm reachesLevel
  simp [h, Level.code]

theorem State.startGrid_period (s : State) : s.startGrid.samp.period = s.periodInEffect := rfl

/-- Settles O4: COLD in one equation, and the results closed slot by slot. -/
theorem coldResetStartsAfresh : Obligations.ColdResetStartsAfresh := by
  unfold Obligations.ColdResetStartsAfresh
  intro s
  obtain ⟨t, closed⟩ : ∃ t, t =
      ((s.retentionAfresh.mainAfresh .cold).raisePower .cold).finaliseRunning none := ⟨_, rfl⟩
  have cold := State.cold_eq closed
  have idle : t.marker.active = false := by
    rw [closed]
    exact (ResultsClosed.finaliseRunning _ none).inactive rfl
  have slots (n : Nat) (hn : n ≤ 8) : t.recmem.slot n = (s.recmem.slot n).map fun r =>
      if r.header.status = .running then r.poweredOff none else r := by
    rw [closed, State.finaliseRunning_slot _ none hn]
    rfl
  have started : s.startedAs s.cold .cold :=
    State.startedAs_retentionAfresh ((Startup.cold s).startedAs (by rw [cold]; exact idle))
  refine ⟨s.cold, rfl, started, ?_⟩
  rw [cold]
  refine ⟨rfl, fun ch => by cases ch <;> rfl, rfl, rfl, rfl, ?_, rfl, ?_, rfl, fun n hn => ?_,
    fun n r held => ?_, ?_⟩
  · simp only [List.mem_cons, List.not_mem_nil, or_false]
    rintro c (rfl | rfl | rfl) <;> rfl
  · rw [State.startGrid_period, State.periodInEffect_normal]
    · rfl
    · rfl
  · exact slots n hn
  · exact RecordMemory.le_highestRun held
  · exact s.recmem.highestRun_held

end Sys2Proof.Machine
end

section
/-! PROOF. Every step keeps the settings sound: the copy in use, the stored one, the one on its way to flash,
and O_p (R3, R39, R42, R56, R81, R126, R151, R189, R190). -/

namespace Sys2Proof.Machine

open Sys2Proof.Config

/-- From s to t the copies of the settings and O_p stand. -/
structure CopiesStand (s t : State) : Prop where
  settings : t.settings = s.settings
  stored : t.stored = s.stored
  image : t.flash.settingsImage = s.flash.settingsImage
  pressOffset : t.stage.pressOffset = s.stage.pressOffset

namespace CopiesStand

theorem refl (s : State) : CopiesStand s s := ⟨rfl, rfl, rfl, rfl⟩

theorem trans {s t u : State} (h : CopiesStand s t) (k : CopiesStand t u) : CopiesStand s u :=
  ⟨k.settings.trans h.settings, k.stored.trans h.stored, k.image.trans h.image,
    k.pressOffset.trans h.pressOffset⟩

theorem ite {s t u : State} {p : Prop} [Decidable p] (h : CopiesStand s t) (k : CopiesStand s u) :
    CopiesStand s (if p then t else u) := by
  split
  · exact h
  · exact k

theorem ofEvent {s t : State} (h : EventLeaves s t) : CopiesStand s t :=
  ⟨h.settings, h.stored, congrArg (·.settingsImage) h.flash, h.pressOffset⟩

theorem ofRun {s t : State} (h : RunLeaves s t) : CopiesStand s t := ofEvent (EventLeaves.ofRun h)

/-- Copies that stand stay sound. -/
theorem sound {s t : State} (h : CopiesStand s t) (k : s.settingsSound) : t.settingsSound := by
  unfold State.settingsSound
  rw [h.settings, h.stored, h.image, h.pressOffset]
  exact k

/-! Flash operations of the other classes (R77, R121, R123, R125). -/

theorem concludeOp (s : State) (n : LongOpNotice) : CopiesStand s (s.concludeOp n) := by
  refine trans ?_ (ofEvent (EventLeaves.raise _ _))
  cases n.cls <;> constructor <;> rfl

theorem endOp (s : State) : CopiesStand s s.endOp := by constructor <;> rfl

theorem commitDone (s : State) (ok : Bool) : CopiesStand s (s.commitDone ok) := by
  unfold State.commitDone
  split
  · exact refl s
  · split <;> exact trans (by constructor <;> rfl) (concludeOp _ _)

theorem storeDone (s : State) (n : Nat) (ok : Bool) : CopiesStand s (s.storeDone n ok) :=
  trans (by constructor <;> rfl) (concludeOp _ _)

theorem loadDone (s : State) (n : Nat) (ok : Bool) : CopiesStand s (s.loadDone n ok) := by
  unfold State.loadDone
  dsimp only
  split
  · exact trans (by constructor <;> rfl) (concludeOp _ _)
  · split <;> exact trans (by constructor <;> rfl) (concludeOp _ _)

/-! Requests, block by block (12.4). -/

theorem reqClockCrystal (s : State) : CopiesStand s s.reqClockCrystal.state := by
  unfold State.reqClockCrystal
  split
  · exact refl s
  · exact refl s
  · constructor <;> rfl

theorem reqClockRc (s : State) : CopiesStand s s.reqClockRc.state := by
  unfold State.reqClockRc
  split
  · exact refl s
  · exact ofEvent (EventLeaves.changeSource s _)
  · exact refl s

theorem reqReferenceShaft (s : State) (x : Int) : CopiesStand s (s.reqReferenceShaft x).state :=
  trans (by constructor <;> rfl)
    (ofEvent ((EventLeaves.setShaft _ .healthy none none).trans
      (EventLeaves.setDisagree _ false 0 none none)))

theorem reqGetSetting (s : State) (id : BitVec 16) : CopiesStand s (s.reqGetSetting id).state := by
  unfold State.reqGetSetting
  split <;> exact refl s

theorem reqPutRow (s : State) (k : Nat) (h q : Int) : CopiesStand s (s.reqPutRow k h q).state := by
  unfold State.reqPutRow
  dsimp only
  split
  · constructor <;> rfl
  · split
    · constructor <;> rfl
    · exact refl s

theorem reqGetRating (s : State) (t : Nat) : CopiesStand s (s.reqGetRating t).state := by
  unfold State.reqGetRating
  dsimp only
  split <;> exact refl s

theorem reqCommit (s : State) : CopiesStand s s.reqCommit.state := by
  unfold State.reqCommit
  dsimp only
  split
  · exact refl s
  · exact refl s
  · constructor <;> rfl

theorem reqAck (s : State) (l : Nat) : CopiesStand s (s.reqAck l).state := by
  unfold State.reqAck
  split
  · exact refl s
  · split
    · exact refl s
    · constructor <;> simp

theorem reqArm (s : State) (l : Byte) (n : Bool) : CopiesStand s (s.reqArm l n).state := by
  unfold State.reqArm
  dsimp only
  split
  · exact refl s
  · constructor <;> rfl

theorem reqDisarm (s : State) (l : Byte) : CopiesStand s (s.reqDisarm l).state := by
  unfold State.reqDisarm
  dsimp only
  split
  · exact refl s
  · constructor <;> rfl

theorem reqSelect (s : State) (l p : Byte) : CopiesStand s (s.reqSelect l p).state := by
  unfold State.reqSelect
  dsimp only
  split
  · exact refl s
  · constructor <;> rfl

theorem reqJog (s : State) (ax : Axis) (k : MoveKind) : CopiesStand s (s.reqJog ax k).state := by
  have move := ofRun (RunLeaves.requestMove s
    { requester := .host, axis := ax, kind := k, speed := .auto })
  unfold State.reqJog
  split
  · exact refl s
  · split <;> next e => rw [e] at move; exact move

theorem reqStop (s : State) : CopiesStand s s.reqStop.state := by
  have stop := ofRun ((RunLeaves.stopMove s .host).trans (RunLeaves.report (s.stopMove .host)))
  unfold State.reqStop
  split
  · exact refl s
  · exact stop
  · exact stop
  · split
    · exact refl s
    · exact ofRun (RunLeaves.clearDrive s)

theorem reqPutHeader (s : State) (n : List Byte) (c m : Nat) :
    CopiesStand s (s.reqPutHeader n c m).state := by
  unfold State.reqPutHeader
  split
  · split <;> constructor <;> rfl
  · exact refl s

theorem reqPutVertical (s : State) (k : Nat) (e : VertForm) :
    CopiesStand s (s.reqPutVertical k e).state := by
  unfold State.reqPutVertical
  split
  · exact refl s
  · split
    · exact refl s
    · split <;> constructor <;> rfl

theorem reqValidate (s : State) : CopiesStand s s.reqValidate.state := by
  unfold State.reqValidate
  split
  · exact refl s
  · split <;> constructor <;> rfl

theorem reqGetPlan (s : State) (k : Nat) : CopiesStand s (s.reqGetPlan k).state := by
  unfold State.reqGetPlan
  dsimp only
  split <;> exact refl s

theorem reqStorePlan (s : State) (n : Nat) : CopiesStand s (s.reqStorePlan n).state := by
  unfold State.reqStorePlan
  split
  · exact refl s
  · split
    · exact refl s
    · split <;> constructor <;> rfl

theorem reqLoadPlan (s : State) (n : Nat) : CopiesStand s (s.reqLoadPlan n).state := by
  have start (t : State) : CopiesStand t (t.startLoad n) := by constructor <;> rfl
  unfold State.reqLoadPlan
  split
  · exact refl s
  · split
    · exact start s
    · split
      · exact trans (concludeOp s _) (start _)
      · exact refl s

theorem reqStartRun (s : State) : CopiesStand s s.reqStartRun.state := by
  have claim (p : StoredPlan) : CopiesStand s (s.claimRun p) := by constructor <;> rfl
  unfold State.reqStartRun
  split
  · exact refl s
  · split
    · exact refl s
    · split
      · exact refl s
      · split
        · exact refl s
        · split
          · exact refl s
          · exact refl s
          · exact refl s
          · exact trans (claim _) (ofRun (RunLeaves.runDo _ _))

theorem reqHold (s : State) : CopiesStand s s.reqHold.state := by
  have hold := ofRun (RunLeaves.addHold s fun c => { c with host := true })
  unfold State.reqHold
  split
  · exact hold
  · exact refl s

theorem clearCauses (s : State) : CopiesStand s s.clearCauses := by
  have host := RunLeaves.modRun s fun r => { r with causes := { r.causes with host := false } }
  unfold State.clearCauses
  dsimp only
  split
  · split
    · exact ofRun ((host.trans (RunLeaves.clearDrive _)).trans (RunLeaves.modRun _ _))
    · exact ofRun (host.trans (RunLeaves.clearDrive _))
  · exact ofRun host

theorem reqResume (s : State) : CopiesStand s s.reqResume.state := by
  unfold State.reqResume
  split
  · exact refl s
  · split
    · exact refl s
    · exact refl s
    · dsimp only
      split
      · exact trans (clearCauses s) (ofRun (RunLeaves.runDo _ _))
      · split <;> exact clearCauses s

theorem reqAbort (s : State) : CopiesStand s s.reqAbort.state := by
  unfold State.reqAbort
  split
  · exact refl s
  · exact refl s
  · exact ofRun (RunLeaves.abortHeld s _)
  · exact ofRun (RunLeaves.abortActive s)

theorem reqSeekSeq (s : State) (n : Nat) : CopiesStand s (s.reqSeekSeq n).state := by
  have seek (c : Option Nat) (b : Bool) : CopiesStand s (s.seekTo c b).state := by
    constructor <;> rfl
  unfold State.reqSeekSeq
  split
  · exact seek _ _
  · split
    · exact seek _ _
    · split <;> exact seek _ _

theorem reqReadForward (s : State) (n : Nat) : CopiesStand s (s.reqReadForward n).state := by
  unfold State.reqReadForward
  split <;> constructor <;> rfl

theorem reqReadBackward (s : State) (n : Nat) : CopiesStand s (s.reqReadBackward n).state := by
  unfold State.reqReadBackward
  dsimp only
  split <;> constructor <;> rfl

theorem reqResultHeader (s : State) (n : SlotName) : CopiesStand s (s.reqResultHeader n).state := by
  unfold State.reqResultHeader
  split
  · exact refl s
  · split <;> exact refl s

theorem reqResultVerticals (s : State) (n : SlotName) (k : Nat) :
    CopiesStand s (s.reqResultVerticals n k).state := by
  unfold State.reqResultVerticals
  split
  · exact refl s
  · split <;> exact refl s

theorem reqTakeNotice (s : State) : CopiesStand s s.reqTakeNotice.state := by
  unfold State.reqTakeNotice
  split
  · exact refl s
  · constructor <;> rfl

theorem reqSetIdentity (s : State) (n : Nat) (ok : Bool) :
    CopiesStand s (s.reqSetIdentity n ok).state := by
  unfold State.reqSetIdentity
  split
  · exact refl s
  · split
    · exact refl s
    · split <;> constructor <;> rfl

theorem reqInvalid (s : State) (kind : Byte) : CopiesStand s (s.reqInvalid kind).state := by
  unfold State.reqInvalid
  split <;> exact refl s

theorem ofWrite {s t : State} (h : WriteLeaves s t) : CopiesStand s t :=
  ⟨h.settings, h.stored, congrArg (·.settingsImage) h.flash, h.pressOffset⟩

end CopiesStand

/-! The requests that write (R42, R189, R190). -/

theorem Settings.write_sound {t u : Settings} {i : SettingId} {v : Option Int} {c : Bool}
    (h : t.sound = true) (k : t.write i v = some (u, c)) : u.sound = true := by
  unfold Settings.write at k
  split at k
  · cases k
  · next accepted =>
    split at k
    · next fits =>
      cases k
      exact Settings.sound_iff.2 ((Settings.sound_iff.1 h).put
        (SettingKind.legal_of_accept i.range_le accepted) fits)
    · cases k

theorem reqPutSetting_sound {s : State} (h : s.settingsSound) (id : BitVec 16) (v : Option Int) :
    (s.reqPutSetting id v).state.settingsSound := by
  cases listed : settingOfCode id with
  | none => rw [State.reqPutSetting_unlisted s v listed]; exact h
  | some i =>
    cases write : s.settings.write i v with
    | none => rw [State.reqPutSetting_refused listed write]; exact h
    | some p =>
      obtain ⟨t, c⟩ := p
      rw [State.reqPutSetting_admitted listed write]
      refine (CopiesStand.ofWrite (WriteLeaves.written { s with settings := t } s i)).sound ?_
      obtain ⟨sound, storedSound, imageSound, offset⟩ := h
      have written := Settings.write_sound sound write
      refine ⟨written, storedSound, imageSound, ?_⟩
      dsimp only
      split
      · exact (Settings.sound_iff.1 written).num_range rfl
      · exact offset

/-- The whole working copy with O_p in it is sound (R40, R190). -/
theorem State.settingsImage_sound {s : State} (h : s.settingsSound) :
    s.settingsImage.sound = true := by
  obtain ⟨sound, -, -, low, high⟩ := h
  exact Settings.sound_iff.2 ((Settings.sound_iff.1 sound).put (i := .pressureOffset)
    (decide_eq_true ⟨low, high⟩) rfl)

theorem reqStoreSettings_sound {s : State} (h : s.settingsSound) :
    s.reqStoreSettings.state.settingsSound := by
  have image := State.settingsImage_sound h
  obtain ⟨sound, storedSound, imageSound, offset⟩ := h
  unfold State.reqStoreSettings
  split
  · exact ⟨sound, storedSound, imageSound, offset⟩
  · exact ⟨sound, rfl, image, offset⟩

/-- A number of the sound settings in use lies in its setting's range. -/
theorem State.num_range {s : State} (h : s.settings.sound = true) {i : SettingId} {lo hi : Int}
    (k : i.kind = .num lo hi) : lo ≤ s.num i ∧ s.num i ≤ hi :=
  (Settings.sound_iff.1 h).num_range k

/-- The rise at an accepted frequency is less than 20 km (R38). -/
theorem State.pressureRise_range {s : State} (h : s.settings.sound = true) {f : Int}
    (k : s.frequencyAccepted f = true) :
    -20000000 ≤ s.pressureRise f ∧ s.pressureRise f ≤ 20000000 := by
  have zero := State.num_range h (i := .pressureF0) rfl
  have factor := State.num_range h (i := .pressureGaugeFactor) rfl
  have low := State.num_range h (i := .pressureFMin) rfl
  have high := State.num_range h (i := .pressureFMax) rfl
  obtain ⟨above, below⟩ : s.num .pressureFMin ≤ f ∧ f ≤ s.num .pressureFMax := by
    simpa [State.frequencyAccepted] using k
  unfold State.pressureRise
  have near := roundDiv_near (s.num .pressureGaugeFactor *
    (s.num .pressureF0 * s.num .pressureF0 - f * f)) 10000000000 (by decide)
  have square {x : Int} (l : 10000 ≤ x) (u : x ≤ 1000000) :
      0 ≤ x * x ∧ x * x ≤ 1000000 * 1000000 :=
    ⟨Int.mul_nonneg (by omega) (by omega), Int.mul_le_mul u u (by omega) (by decide)⟩
  have first := square zero.1 zero.2
  have second := square (x := f) (by omega) (by omega)
  have product : (s.num .pressureGaugeFactor *
      (s.num .pressureF0 * s.num .pressureF0 - f * f)).natAbs ≤ 200000 * 1000000000000 := by
    rw [Int.natAbs_mul]
    exact Nat.mul_le_mul (by omega) (by omega)
  omega

theorem reqReferencePressure_sound {s : State} (h : s.settingsSound) (x : Int) :
    (s.reqReferencePressure x).state.settingsSound := by
  unfold State.reqReferencePressure
  split
  · exact h
  · next m _ =>
    split
    · next accepted =>
      obtain ⟨sound, storedSound, imageSound, -⟩ := h
      obtain ⟨low, high⟩ := State.pressureRise_range sound accepted
      obtain ⟨low', high'⟩ := clampInt_range (by decide : stageMin ≤ stageMax) x
      refine (CopiesStand.ofEvent (EventLeaves.setDisagree _ false 0 none none)).sound
        ⟨sound, storedSound, imageSound, ?_⟩
      simp only [clampStage]
      simp only [stageMin, stageMax] at *
      omega
    · exact h

/-- Every request keeps the settings sound. -/
theorem answer_sound {s : State} (before : s.settingsSound) (i : Instr) :
    (s.answer i).state.settingsSound := by
  cases i with
  | putSetting _ id v => exact reqPutSetting_sound before id v
  | storeSettings _ => exact reqStoreSettings_sound before
  | setReferencePressure _ x => exact reqReferencePressure_sound before x
  | setClockSourceCrystal _ => exact (CopiesStand.reqClockCrystal s).sound before
  | setClockSourceRc _ => exact (CopiesStand.reqClockRc s).sound before
  | getSetting _ id => exact (CopiesStand.reqGetSetting s id).sound before
  | setReferenceShaft _ x => exact (CopiesStand.reqReferenceShaft s x).sound before
  | putRatingRow _ k h q => exact (CopiesStand.reqPutRow s k h q).sound before
  | getRating _ t => exact (CopiesStand.reqGetRating s t).sound before
  | commitRating _ => exact (CopiesStand.reqCommit s).sound before
  | ackWarning _ l => exact (CopiesStand.reqAck s l).sound before
  | setCaptureArm _ l n => exact (CopiesStand.reqArm s l n).sound before
  | setCaptureDisarm _ l => exact (CopiesStand.reqDisarm s l).sound before
  | setCaptureSelect _ l p => exact (CopiesStand.reqSelect s l p).sound before
  | jogTravelPosition _ _ => exact (CopiesStand.reqJog s _ _).sound before
  | jogTravelHome _ => exact (CopiesStand.reqJog s _ _).sound before
  | jogReelPayout _ _ => exact (CopiesStand.reqJog s _ _).sound before
  | jogReelTop _ => exact (CopiesStand.reqJog s _ _).sound before
  | stop _ => exact (CopiesStand.reqStop s).sound before
  | putPlanHeader _ n c m => exact (CopiesStand.reqPutHeader s n c m).sound before
  | putVertical _ k e => exact (CopiesStand.reqPutVertical s k e).sound before
  | validatePlan _ => exact (CopiesStand.reqValidate s).sound before
  | getPlan _ k => exact (CopiesStand.reqGetPlan s k).sound before
  | storePlan _ n => exact (CopiesStand.reqStorePlan s n).sound before
  | loadPlan _ n => exact (CopiesStand.reqLoadPlan s n).sound before
  | startRun _ => exact (CopiesStand.reqStartRun s).sound before
  | holdRun _ => exact (CopiesStand.reqHold s).sound before
  | resumeRun _ => exact (CopiesStand.reqResume s).sound before
  | abortRun _ => exact (CopiesStand.reqAbort s).sound before
  | archiveSeekSeq _ n => exact (CopiesStand.reqSeekSeq s n.toNat).sound before
  | archiveReadForward _ n => exact (CopiesStand.reqReadForward s n).sound before
  | archiveReadBackward _ n => exact (CopiesStand.reqReadBackward s n).sound before
  | resultReadHeader _ n => exact (CopiesStand.reqResultHeader s n).sound before
  | resultReadVerticals _ n k => exact (CopiesStand.reqResultVerticals s n k).sound before
  | takeNotice _ => exact (CopiesStand.reqTakeNotice s).sound before
  | setIdentity _ n ok => exact (CopiesStand.reqSetIdentity s n.toNat ok).sound before
  | _ => exact before

end Sys2Proof.Machine
end

section
/-! PROOF. Every step keeps the settings sound: resets, completions of flash operations, frames, and the
step (R190, R192). -/

namespace Sys2Proof.Machine

open Sys2Proof.Config

/-! Resets (R1, R190). -/

theorem State.judgeSettings_sound {s : State} (h : s.settingsSound) :
    ((judgeSettings s.stored).map fun c => c.settings.sound).getD true = true := by
  obtain ⟨-, stored, -⟩ := h
  cases judged : judgeSettings s.stored with
  | none => rfl
  | some c =>
    rw [(judgeSettings_eq_some.1 judged).1] at stored
    exact stored

theorem State.loadSettings_sound {s : State} (h : s.settingsSound) :
    s.loadSettings.sound = true := by
  have judged := State.judgeSettings_sound h
  unfold State.loadSettings
  cases c : judgeSettings s.stored with
  | none => exact Settings.defaults_sound
  | some c => rw [c] at judged; exact judged

theorem CopiesStand.ofStartup {s t : State} (h : Startup s t) : CopiesStand s t := by
  rw [h.frame]
  exact ⟨rfl, rfl, rfl, rfl⟩

theorem warm_sound {s : State} (h : s.settingsSound) (k : ResetKind) :
    (s.warm k).settingsSound := by
  have loaded := State.loadSettings_sound h
  have judged := State.judgeSettings_sound h
  obtain ⟨-, -, -, offset⟩ := h
  exact (CopiesStand.ofStartup (Startup.warm s k)).sound ⟨loaded, judged, rfl, offset⟩

theorem cold_sound {s : State} (h : s.settingsSound) : s.cold.settingsSound := by
  have loaded := State.loadSettings_sound h
  have judged := State.judgeSettings_sound h
  exact (CopiesStand.ofStartup (Startup.cold s)).sound
    ⟨loaded, judged, rfl, (Settings.sound_iff.1 loaded).num_range rfl⟩

/-! The store of the settings (R190). -/

theorem settingsDone_sound {s : State} (h : s.settingsSound) (ok : Bool) :
    (s.settingsDone ok).settingsSound := by
  obtain ⟨sound, -, image, offset⟩ := h
  refine (CopiesStand.concludeOp _ _).sound ⟨sound, ?_, rfl, offset⟩
  cases ok with
  | false => rfl
  | true =>
    cases held : s.flash.settingsImage with
    | none => simp [State.endOp]
    | some t =>
      rw [held] at image
      simpa [State.endOp, held, Settings.programmed] using image

/-! The link (R181 to R184, R192). -/

theorem serve_sound {s : State} (h : s.settingsSound) (kind tag : Byte) {f : State → Answer}
    (k : (f s).state.settingsSound) : (s.serve kind tag f).settingsSound := by
  unfold State.serve
  split
  · exact k
  · exact h

theorem answerFrame_sound {s : State} (h : s.settingsSound) (kind tag : Byte) (p : List Byte)
    (ok : Bool) : (s.answerFrame kind tag p ok).state.settingsSound := by
  unfold State.answerFrame
  split
  · exact answer_sound h _
  · exact (CopiesStand.reqInvalid s kind).sound h
  · exact h

theorem takeFrame_sound {s : State} (h : s.settingsSound) (bytes : List Byte) (ok : Bool) :
    (s.takeFrame bytes ok).settingsSound := by
  unfold State.takeFrame
  dsimp only
  split
  · split
    · exact serve_sound h _ _ (answerFrame_sound h _ _ _ ok)
    · exact h
  · exact h

theorem receive_sound {s : State} (h : s.settingsSound) (b : Byte) (ok : Bool) :
    (s.receive b ok).settingsSound := by
  unfold State.receive
  split
  · split
    · split <;> exact h
    · dsimp only
      split
      · exact h
      · split
        · exact h
        · exact takeFrame_sound h _ ok
  · exact h

/-- The last byte of a reply sent; the link is started afresh by the WARM of a RESTART (R183, R192). -/
theorem State.replySent_some {s : State} {r : Reply} (h : s.link.reply = some r) :
    s.replySent =
      if s.link.restart then s.warm .warmRestart
      else { s with link := { s.link with reply := none } } := by
  unfold State.replySent
  rw [h]
  rfl

theorem replySent_sound {s : State} (h : s.settingsSound) : s.replySent.settingsSound := by
  cases r : s.link.reply with
  | none =>
    unfold State.replySent
    rw [r]
    exact h
  | some _ =>
    rw [State.replySent_some r]
    split
    · exact warm_sound h .warmRestart
    · exact h

theorem onMain_sound {s : State} (h : s.settingsSound) {f : State → State}
    (k : (f s).settingsSound) : (s.onMain f).settingsSound := by
  unfold State.onMain
  split
  · exact k
  · exact h

theorem discardAtLength_sound {s : State} (h : s.settingsSound) :
    s.discardAtLength.settingsSound := by
  refine onMain_sound h ?_
  split <;> exact h

theorem ite_sound {s t : State} {p : Prop} [Decidable p] (h : s.settingsSound)
    (k : t.settingsSound) : (if p then s else t).settingsSound := by
  split
  · exact h
  · exact k

/-! The step. -/

theorem next_sound {u t : State} (h : u.settingsSound)
    (e : (.next u : Host.Outcome State Fault Refusal) = .next t) : t.settingsSound := by
  cases e
  exact h

/-- A command that is no request keeps the settings sound. -/
theorem exec_event_sound {s t : State} (h : s.settingsSound) {c : Instr}
    (r : encodeRequest c = none) (e : exec c s = .next t) : t.settingsSound := by
  have event {u : State} (l : EventLeaves s u) : u.settingsSound := (CopiesStand.ofEvent l).sound h
  have main {f : State → State} (l : EventLeaves s (f s)) : (s.onMain f).settingsSound :=
    event (EventLeaves.onMain l)
  have run {f : State → State} (l : RunLeaves s (f s)) : (s.onMain f).settingsSound :=
    main (EventLeaves.ofRun l)
  cases c with
  | coldReset => exact next_sound (cold_sound h) e
  | warmSupplyReturn => exact next_sound (warm_sound h .warmSupply) e
  | resetInputPulse =>
    exact next_sound (onMain_sound (f := fun t => t.warm .warmResetInput) h (warm_sound h _)) e
  | powerGoodLoss => exact next_sound (u := s.losePower) h e
  | secondEvent =>
    exact next_sound (event ((EventLeaves.setTime s _ s.lock _).trans (EventLeaves.second _))) e
  | windowClose n => exact next_sound (event (EventLeaves.closeWindow s n)) e
  | multiplierLock => exact next_sound (onMain_sound (f := State.locks) h h) e
  | gridInstant => exact next_sound (main (EventLeaves.gridInstant s)) e
  | pressureEdge b => exact next_sound (main (EventLeaves.pressurePulse s b)) e
  | pressureComplete b => exact next_sound (main (EventLeaves.pressureDone s b)) e
  | pressureTimeout => exact next_sound (main (EventLeaves.failPressure s _)) e
  | quadratureTransition ch a b => exact next_sound (event (EventLeaves.observePair s ch a b)) e
  | floatIndexEdge => exact next_sound (u := s.floatIndex) h e
  | rotorEdge n =>
    have ticked := event (EventLeaves.tickBy n s)
    exact next_sound (onMain_sound (f := State.rotorPulse) ticked ticked) e
  | contactRawChange i b n =>
    exact next_sound (event ((EventLeaves.tickBy n s).trans (EventLeaves.rawChange _ i b))) e
  | debounceExpiry i => exact next_sound (main (EventLeaves.debounced s i)) e
  | driveStall => exact next_sound (run ((RunLeaves.driveStall s).trans (RunLeaves.report _))) e
  | settleEnd => exact next_sound (run ((RunLeaves.driveSettled s).trans (RunLeaves.report _))) e
  | exposureStart => exact next_sound (run (RunLeaves.startExposure s)) e
  | exposureExpiry => exact next_sound (run (RunLeaves.endExposure s)) e
  | holdLimitExpiry => exact next_sound (run (RunLeaves.holdExpired s)) e
  | cadenceSlot => exact next_sound (main (EventLeaves.startSlot s _)) e
  | ratingCommitComplete ok =>
    exact next_sound (onMain_sound h (ite_sound ((CopiesStand.commitDone s ok).sound h) h)) e
  | settingsStoreComplete ok =>
    exact next_sound (onMain_sound h (ite_sound (settingsDone_sound h ok) h)) e
  | planStoreComplete ok =>
    exact next_sound (onMain_sound h (ite_sound ((CopiesStand.storeDone s _ ok).sound h) h)) e
  | planLoadComplete ok =>
    exact next_sound (onMain_sound h (ite_sound ((CopiesStand.loadDone s _ ok).sound h) h)) e
  | frameInterbyteTimeout => exact next_sound (onMain_sound (f := State.hunt) h h) e
  | frameLengthInvalid => exact next_sound (discardAtLength_sound h) e
  | frameByteFramingError => exact next_sound (onMain_sound (f := State.hunt) h h) e
  | frameCrcMismatch => exact next_sound (onMain_sound (f := State.hunt) h h) e
  | replySent => exact next_sound (onMain_sound h (replySent_sound h)) e
  | unknownRequest kind tag =>
    have served := serve_sound h kind tag (f := State.reqUnknown) h
    exact next_sound (ite_sound h served) e
  | frameByteReceived b ok => exact next_sound (receive_sound h b ok) e
  | _ => cases r

theorem exec_sound {s t : State} (h : s.settingsSound) {c : Instr} (e : exec c s = .next t) :
    t.settingsSound := by
  cases r : encodeRequest c with
  | none => exact exec_event_sound h r e
  | some p =>
    obtain ⟨kind, tag, payload⟩ := p
    rw [exec_request c s r] at e
    exact next_sound (serve_sound h kind tag (answer_sound h c)) e

/-- Settles O59: the tick touches no copy of the settings, and every command keeps them sound. -/
theorem stepKeepsSettingsSound : Obligations.StepKeepsSettingsSound := by
  unfold Obligations.StepKeepsSettingsSound
  intro s t h e
  unfold step at e
  split at e
  · exact next_sound ((CopiesStand.ofEvent (EventLeaves.tick s)).sound h) e
  · next c rest _ => exact exec_sound (s := { s with pending := rest }) h e

end Sys2Proof.Machine
end

section
/-! PROOF. The main domain during an outage: no command but COLD and the return of the supply reaches it
(chapter 1, R23, R34, R98). -/

namespace Sys2Proof.Machine

open Sys2Proof.Config

/-- s with what goes on during an outage taken of t: the clocks, the quadrature channels, the FLOAT index
and the contact inputs. -/
def State.withRetention (s t : State) : State :=
  { s with
    ticks := t.ticks, time := t.time, float := t.float, travel := t.travel, reel := t.reel
    index := t.index, contacts := t.contacts }

/-- From s to t nothing has changed but what goes on during an outage; of a contact input that is its raw
level. -/
structure OutageLeaves (s t : State) : Prop where
  frame : t = s.withRetention t
  raw : ∀ i, t.contacts.get i = { s.contacts.get i with raw := (t.contacts.get i).raw }

namespace OutageLeaves

theorem refl (s : State) : OutageLeaves s s := ⟨rfl, fun _ => rfl⟩

theorem trans {s t u : State} (h : OutageLeaves s t) (k : OutageLeaves t u) : OutageLeaves s u :=
  ⟨k.frame.trans (congrArg (·.withRetention u) h.frame), fun i => by
    rw [k.raw i, h.raw i]⟩

theorem unpowered {s t : State} (h : OutageLeaves s t) (k : s.powered = false) :
    t.powered = false := by
  rw [h.frame]
  exact k

/-- One effect after the other, the main domain being unpowered at both. -/
theorem andThen {s t u : State} (h : OutageLeaves s t) (p : s.powered = false)
    (k : t.powered = false → OutageLeaves t u) : OutageLeaves s u := trans h (k (h.unpowered p))

theorem ite {s t u : State} {p : Prop} [Decidable p] (h : OutageLeaves s t)
    (k : OutageLeaves s u) : OutageLeaves s (if p then t else u) := by
  split
  · exact h
  · exact k

/-- An update that leaves the contact inputs. -/
theorem update {s t : State} (frame : t = s.withRetention t) (contacts : t.contacts = s.contacts) :
    OutageLeaves s t := ⟨frame, fun _ => by rw [contacts]⟩

/-! The clock (chapter 1). -/

theorem setTime (s : State) (t : Timebase) (n : Nat) :
    OutageLeaves s { s with time := t, ticks := n } := update rfl rfl

theorem second {s : State} (h : s.powered = false) : OutageLeaves s s.second := by
  rw [State.second_counts (.inl h)]
  exact update rfl rfl

theorem addTicks {s : State} (h : s.powered = false) (n : Nat) : OutageLeaves s (s.addTicks n) := by
  unfold State.addTicks
  split
  · exact andThen (setTime s _ s.ticks) h second
  · exact setTime s _ s.ticks

theorem changeSource {s : State} (h : s.powered = false) (t : Timebase) :
    OutageLeaves s (s.changeSource t) := by
  have unannounced : s.changeSource t = { s with time := t } := by
    simp [State.changeSource, State.announce, h]
  rw [unannounced]
  exact update rfl rfl

theorem raise {s : State} (h : s.powered = false) (n : Notice) : OutageLeaves s (s.raise n) := by
  rw [State.raise_unpowered h]
  exact refl s

theorem switched {s : State} (h : s.powered = false) (t : Timebase) (c : ClockCause) :
    OutageLeaves s ((s.changeSource t).raiseClock c) :=
  andThen (changeSource h t) h fun k => raise k _

theorem closeWindow {s : State} (h : s.powered = false) (n : Nat) :
    OutageLeaves s (s.closeWindow n) := by
  unfold State.closeWindow
  split
  · exact ite (andThen (addTicks h _) h fun k => switched k _ _) (setTime s _ s.ticks)
  · exact ite (switched h _ _)
      (ite (andThen (setTime s _ s.ticks) h fun k => raise k _) (setTime s _ s.ticks))
  · exact refl s

theorem tick {s : State} (h : s.powered = false) : OutageLeaves s s.tick := by
  have counted : OutageLeaves s s.countTick :=
    andThen (setTime s s.time (s.ticks + 1)) h fun k => addTicks k 1
  unfold State.tick
  rw [State.onMain_unpowered (counted.unpowered h)]
  exact counted

theorem tickBy {s : State} (h : s.powered = false) (n : Nat) : OutageLeaves s (s.tickBy n) := by
  induction n generalizing s with
  | zero => exact refl s
  | succ n ih => exact andThen (tick h) h ih

/-! The field wiring (chapter 2). -/

theorem observePair {s : State} (h : s.powered = false) (ch : Chan) (a b : Bool) :
    OutageLeaves s (s.observePair ch a b) := by
  have counted (q : Quad) : OutageLeaves s (s.setQuad ch q) := by cases ch <;> exact update rfl rfl
  unfold State.observePair
  dsimp only
  split
  · exact counted _
  · simp only [h, Bool.and_false, Bool.false_eq_true, if_false]
    exact counted _

theorem rawChange {s : State} (h : s.powered = false) (i : Contact) (b : Bool) :
    OutageLeaves s (s.rawChange i b) := by
  have changed : OutageLeaves s (s.modContact i fun l => { l with raw := b }) := by
    refine ⟨rfl, fun j => ?_⟩
    by_cases same : j = i
    · subst same
      simp
    · simp [same]
  unfold State.rawChange
  dsimp only
  split
  · exact refl s
  · simp only [h, Bool.not_false, if_true]
    exact changed

end OutageLeaves

/-- What a command other than COLD and the return of the supply does during an outage. -/
theorem exec_unpowered {c : Instr} {s t : State} (h : s.powered = false) (cold : c ≠ .coldReset)
    (supply : c ≠ .warmSupplyReturn) (loss : c ≠ .powerGoodLoss) (e : exec c s = .next t) :
    OutageLeaves s t := by
  have next {u : State} (k : OutageLeaves s u)
      (e : (.next u : Host.Outcome State Fault Refusal) = .next t) : OutageLeaves s t := by
    cases e
    exact k
  have main (u : State) (f : State → State) (k : OutageLeaves s u) :
      OutageLeaves s (u.onMain f) := by
    rw [State.onMain_unpowered (k.unpowered h)]
    exact k
  cases r : encodeRequest c with
  | some p =>
    obtain ⟨kind, tag, payload⟩ := p
    rw [exec_request c s r, State.serve_lost (.inl h)] at e
    exact next (.refl s) e
  | none =>
    cases c with
    | coldReset => exact absurd rfl cold
    | warmSupplyReturn => exact absurd rfl supply
    | powerGoodLoss => exact absurd rfl loss
    | secondEvent =>
      exact next (.andThen (.setTime s _ _) h .second) e
    | windowClose n => exact next (.closeWindow h n) e
    | quadratureTransition ch a b => exact next (.observePair h ch a b) e
    | floatIndexEdge => exact next (u := s.floatIndex) (.update rfl rfl) e
    | rotorEdge n => exact next (main _ _ (.tickBy h n)) e
    | contactRawChange i b n =>
      exact next (.andThen (.tickBy h n) h fun k => .rawChange k i b) e
    | unknownRequest kind tag =>
      have lost : OutageLeaves s (s.serve kind tag State.reqUnknown) := by
        rw [State.serve_lost (.inl h)]
        exact .refl s
      exact next (.ite (.refl s) lost) e
    | frameByteReceived b ok =>
      have deaf : OutageLeaves s (s.receive b ok) := by
        have lost : s.receive b ok = s := by simp [State.receive, State.listening, h]
        rw [lost]
        exact .refl s
      exact next deaf e
    | resetInputPulse | multiplierLock | gridInstant | pressureEdge | pressureComplete
    | pressureTimeout | debounceExpiry | driveStall | settleEnd | exposureStart | exposureExpiry
    | holdLimitExpiry | cadenceSlot | ratingCommitComplete | settingsStoreComplete
    | planStoreComplete | planLoadComplete | frameInterbyteTimeout | frameLengthInvalid
    | frameByteFramingError | frameCrcMismatch | replySent => exact next (main s _ (.refl s)) e
    | _ => cases r

/-- Settles O6: the loss of POWER_GOOD by computation, the outage command by command. -/
theorem unpoweredMainDomainStands : Obligations.UnpoweredMainDomainStands := by
  unfold Obligations.UnpoweredMainDomainStands
  refine ⟨fun s => rfl, fun c s t h cold supply e => ?_⟩
  by_cases loss : c = .powerGoodLoss
  · subst loss
    have lost : s.losePower = t := Host.Outcome.next.inj e
    subst lost
    refine ⟨?_, .inr rfl, fun _ => rfl, fun _ => rfl⟩
    simp [State.losePower, h]
  · obtain ⟨frame, raw⟩ := exec_unpowered h cold supply loss e
    have outs : t.outs = s.outs := by rw [frame]; rfl
    refine ⟨?_, .inl outs, raw, fun i => ?_⟩
    · rw [outs]
      exact frame
    · unfold State.level
      rw [raw]

end Sys2Proof.Machine
end

section
/-! PROOF. WARM (R1, R19, R23, R24, R36, R55, R66, R89, R97, R149, R190, R192). -/

namespace Sys2Proof.Machine

open Sys2Proof.Config

/-! The notices. -/

/-- A notice of a kind without an entry comes last (R194). -/
theorem enqueue_new {n : Notice} {q : List Notice} (h : n.kind ∉ q.map Notice.kind) :
    enqueue n q = q ++ [n] := by
  induction q with
  | nil => rfl
  | cons m q ih =>
    rw [List.map_cons, List.mem_cons, not_or] at h
    obtain ⟨head, tail⟩ := h
    rw [enqueue, if_neg fun e => head e.symm, ih tail, List.cons_append]

/-- An entry of another kind stands (R194). -/
theorem mem_enqueue_of_mem {m n : Notice} (k : m.kind ≠ n.kind) {q : List Notice} (h : m ∈ q) :
    m ∈ enqueue n q := by
  induction q with
  | nil => cases h
  | cons o q ih =>
    unfold enqueue
    obtain rfl | h := List.mem_cons.1 h
    · rw [if_neg k]
      exact List.mem_cons_self
    · split
      · exact List.mem_cons_of_mem _ h
      · exact List.mem_cons_of_mem _ (ih h)

theorem State.mem_raise_of_mem {s : State} {m n : Notice} (k : m.kind ≠ n.kind)
    (h : m ∈ s.link.queue) : m ∈ (s.raise n).link.queue := by
  cases p : s.powered with
  | false => rwa [State.raise_unpowered p]
  | true =>
    rw [State.raise_powered p]
    exact mem_enqueue_of_mem k h

/-! The levels (R87, R97). -/

/-- A change of level while no run is under way reaches neither the channels nor the Stage Unit, the
results and the marker. -/
theorem State.levelChanged_frame {s : State} (h : s.run.phase = .idle) (old : Level) (c : LevelCause)
    (m : Kinds) (w : Option WarnSample) :
    let t := s.levelChanged old c m w
    (∀ ch, t.quad ch = s.quad ch) ∧ t.index = s.index ∧ t.stage = s.stage ∧ t.recmem = s.recmem ∧
      t.marker = s.marker ∧ t.settings = s.settings := by
  by_cases k : s.warn.current = old
  · rw [State.levelChanged_same k]
    exact ⟨fun _ => rfl, rfl, rfl, rfl, rfl, rfl⟩
  · obtain ⟨n, -, -, -, e⟩ := State.levelChanged_idle h k c m w
    rw [e]
    refine ⟨fun ch => ?_, ?_⟩
    · cases ch <;> simp [State.quad]
    · simp

/-- What a change of level makes of the Warning Unit while no run is under way (R87). -/
theorem State.levelChanged_warn {s : State} (h : s.run.phase = .idle) (old : Level) (c : LevelCause)
    (m : Kinds) (w : Option WarnSample) :
    let t := s.levelChanged old c m w
    t.warn.watch = s.warn.watch ∧ t.warn.warning = s.warn.warning ∧
      t.warn.severe = s.warn.severe ∧
      t.warn.ack =
        if s.warn.current ≠ old ∧ s.warn.current.code < s.warn.ack.code then s.warn.current
        else s.warn.ack := by
  by_cases k : s.warn.current = old
  · rw [State.levelChanged_same k]
    simp [k]
  · obtain ⟨n, -, -, -, e⟩ := State.levelChanged_idle h k c m w
    rw [e]
    simp only [State.raise_fields, State.refreshPeriod_fields, State.startSlot_fields, true_and]
    unfold Level.lower
    by_cases lower : s.warn.ack.code ≤ s.warn.current.code
    · rw [if_pos lower, if_neg fun e => absurd e.2 (by omega)]
    · rw [if_neg lower, if_pos ⟨k, by omega⟩]

/-- The LEVEL notice of a change of level, where none waits yet (R88). -/
theorem State.levelChanged_notice {s : State} (f : s.Fresh) {old : Level}
    (k : s.warn.current ≠ old) (none : .level ∉ s.link.queue.map Notice.kind) (c : LevelCause)
    (m : Kinds) (w : Option WarnSample) :
    ∃ n : LevelNotice, .level n ∈ (s.levelChanged old c m w).link.queue ∧ n.from_ = old ∧
      n.to_ = s.warn.current ∧ n.cause = c := by
  obtain ⟨n, from_, to_, cause, e⟩ := State.levelChanged_idle f.phase k c m w
  refine ⟨n, ?_, from_, to_, cause⟩
  rw [e, State.raise_powered (by simpa using f.powered)]
  have link : (({ s with warn := { s.warn with ack := s.warn.ack.lower s.warn.current } }.startSlot
      0).refreshPeriod).link = s.link := by simp
  simp only [link, enqueue_new (n := .level n) none]
  simp

/-! The encoders (R23, R24, R36). -/

theorem Quad.configure_eq (q : Quad) (m : Nat) (r : Bool) :
    q.configure m r =
      { q with
        mult := m, reversed := r
        dir := if m = q.mult ∧ r = q.reversed then q.dir else none } := by
  unfold Quad.configure
  split
  · next same =>
    obtain ⟨rfl, rfl⟩ := same
    rfl
  · rfl

/-- The encoders reloaded, the shaft's meaning apart (R23, R24, R36). -/
def State.encodersCopied (s : State) : State :=
  ((((if s.phaseDrops then s.dropPhase else s).configureChannel .float).configureChannel
    .travel).configureChannel .reel).copyFloat

theorem State.reloadEncoders_eq (s : State) :
    s.reloadEncoders = if s.floatDiffers then s.encodersCopied.shaftMeaning else s.encodersCopied :=
  rfl

theorem State.encodersCopied_eq (s : State) :
    s.encodersCopied =
      { s with
        float := s.float.configure (s.nat .floatMultiplier) (decide (s.nat .floatDirection = 1))
        travel := s.travel.configure (s.nat .travelMultiplier) (decide (s.nat .travelDirection = 1))
        reel := s.reel.configure (s.nat .reelMultiplier) (decide (s.nat .reelDirection = 1))
        index := { s.index with phase := if s.phaseDrops then none else s.index.phase }
        stage :=
          { s.stage with
            linesCopy := s.num .floatLines, circCopy := s.num .floatCircumference } } := by
  unfold State.encodersCopied
  split <;> rfl

/-- The shaft UNREFERENCED, and what that leaves (R36, R54). -/
theorem State.shaftMeaning_fields (s : State) :
    let t := s.shaftMeaning
    (∀ ch, t.quad ch = s.quad ch) ∧ t.index = s.index ∧
      t.stage = { s.stage with shaft := .unreferenced } ∧ t.warn = s.warn ∧ t.marker = s.marker ∧
      t.recmem = s.recmem ∧ ∀ m ∈ s.link.queue, m.kind ≠ .sensor → m ∈ t.link.queue := by
  obtain e | ⟨n, e⟩ := s.shaftMeaning_cases
  · rw [e]
    exact ⟨fun ch => by cases ch <;> rfl, rfl, rfl, rfl, rfl, rfl, fun _ h _ => h⟩
  · rw [e]
    refine ⟨fun ch => by cases ch <;> simp [State.quad], ?_⟩
    simp only [State.raise_fields, true_and]
    exact fun m h k => State.mem_raise_of_mem k h

/-- What reloading the encoders comes to. -/
theorem State.reloadEncoders_fields (s : State) :
    let t := s.reloadEncoders
    (∀ ch, t.quad ch =
      (s.quad ch).configure (s.nat (multSetting ch)) (decide (s.nat (dirSetting ch) = 1))) ∧
    t.index = { s.index with phase := if s.phaseDrops then none else s.index.phase } ∧
    t.stage =
      { s.stage with
        linesCopy := s.num .floatLines, circCopy := s.num .floatCircumference
        shaft := if s.floatDiffers then .unreferenced else s.stage.shaft } ∧
    t.warn = s.warn ∧ t.marker = s.marker ∧ t.recmem = s.recmem ∧
    (∀ m ∈ s.link.queue, m.kind ≠ .sensor → m ∈ t.link.queue) := by
  have quads (ch : Chan) : s.encodersCopied.quad ch =
      (s.quad ch).configure (s.nat (multSetting ch)) (decide (s.nat (dirSetting ch) = 1)) := by
    rw [State.encodersCopied_eq]
    cases ch <;> rfl
  have copied := s.encodersCopied_eq
  rw [State.reloadEncoders_eq]
  cases differs : s.floatDiffers with
  | false =>
    rw [if_neg Bool.false_ne_true, if_neg Bool.false_ne_true]
    refine ⟨quads, ?_⟩
    rw [copied]
    exact ⟨rfl, rfl, rfl, rfl, rfl, fun _ h _ => h⟩
  | true =>
    rw [if_pos rfl, if_pos rfl]
    obtain ⟨quad, index, stage, warn, marker, recmem, queue⟩ := s.encodersCopied.shaftMeaning_fields
    refine ⟨fun ch => (quad ch).trans (quads ch), ?_, ?_, ?_, ?_, ?_, fun m h => queue m ?_⟩
    · rw [index, copied]
    · rw [stage, copied]
    · rw [warn, copied]
    · rw [marker, copied]
    · rw [recmem, copied]
    · rw [copied]
      exact h

/-! WARM, stage by stage. -/

/-- WARM after the results are closed (R149). -/
@[irreducible] def State.warmClosed (s : State) (k : ResetKind) : State :=
  let t := (s.mainAfresh k).raisePower k
  (t.finaliseMarked (some t.time.runTime)).finaliseRunning (some t.time.runTime)

theorem State.warm_eq (s : State) (k : ResetKind) :
    s.warm k = ((s.warmClosed k).reconcileWarm.reloadEncoders.startSlot 0).startGrid := by
  unfold State.warm State.warmClosed
  rfl

theorem State.warmClosed_closed (s : State) (k : ResetKind) :
    ResultsClosed ((s.mainAfresh k).raisePower k) (s.warmClosed k) := by
  unfold State.warmClosed
  exact (ResultsClosed.finaliseMarked _ _).trans (ResultsClosed.finaliseRunning _ _)

theorem State.warmClosed_inactive (s : State) (k : ResetKind) :
    (s.warmClosed k).marker.active = false := by
  unfold State.warmClosed
  dsimp only
  have marked := ResultsClosed.finaliseMarked_inactive ((s.mainAfresh k).raisePower k)
    (some ((s.mainAfresh k).raisePower k).time.runTime)
  exact (ResultsClosed.finaliseRunning _ _).inactive marked

theorem State.warm_settings (s : State) (k : ResetKind) : (s.warm k).settings = s.loadSettings :=
  congrArg (·.settings) (Startup.warm s k).frame

/-- What the main domain afresh and the closing of results leave of the retention domain (R19, R23, R24,
R55, R97, R190). -/
theorem State.warmClosed_fields (s : State) (k : ResetKind) :
    let t := s.warmClosed k
    (∀ ch, t.quad ch = s.quad ch) ∧ t.index = s.index ∧ t.stage = { s.stage with meas := none } ∧
      t.warn = s.warn.restart ∧ t.settings = s.loadSettings := by
  dsimp only
  rw [(s.warmClosed_closed k).frame]
  exact ⟨fun ch => by cases ch <;> rfl, rfl, rfl, rfl, rfl⟩

theorem State.warmClosed_noLevel (s : State) (k : ResetKind) :
    .level ∉ (s.warmClosed k).link.queue.map Notice.kind :=
  (s.warmClosed_closed k).noLevel (by
    intro h
    cases List.mem_singleton.1 h)

/-- The results after WARM (R149). -/
theorem State.warmClosed_slot (s : State) (k : ResetKind) {n : Nat} (h : n ≤ 8) :
    (s.warmClosed k).recmem.slot n =
      (s.recmem.slot n).map fun r =>
        if (s.marker.active = true ∧ s.marker.slot = n) ∨ r.header.status = .running then
          r.poweredOff (some s.time.runTime)
        else r := by
  unfold State.warmClosed
  dsimp only
  rw [State.finaliseRunning_slot _ _ h, State.finaliseMarked_slot, Option.map_map]
  refine congrArg (Option.map · _) (funext fun r => ?_)
  have marker : ((s.mainAfresh k).raisePower k).marker = s.marker := rfl
  have time : ((s.mainAfresh k).raisePower k).time = s.time := rfl
  rw [marker, time, Function.comp_apply]
  by_cases named : s.marker.active = true ∧ s.marker.slot = n
  · simp [named, RunResult.poweredOff]
  · simp only [named, if_false, false_or]

/-- WARM once the latches are reconciled: a change of level, the encoders, the first slot and the grid. -/
theorem State.warm_levels (s : State) (k : ResetKind) :
    ∃ v : State, v.Fresh ∧ .level ∉ v.link.queue.map Notice.kind ∧
      v.warn = s.warn.restart.reconcile s.loadSettings.enabledLevels s.loadSettings.enabledLevels ∧
      (∀ ch, v.quad ch = s.quad ch) ∧ v.index = s.index ∧ v.stage = { s.stage with meas := none } ∧
      v.recmem = (s.warmClosed k).recmem ∧ v.marker = (s.warmClosed k).marker ∧
      v.settings = s.loadSettings ∧
      s.warm k =
        ((v.levelChanged s.warn.current .setting { stage := false, rise := false, flow := false }
          none).reloadEncoders.startSlot 0).startGrid := by
  have fresh := (Startup.ofClosed (s.warmClosed_closed k)).fresh (Startup.fresh_mainAfresh s k)
  have noLevel := s.warmClosed_noLevel k
  obtain ⟨quad, index, stage, warn, settings⟩ := s.warmClosed_fields k
  have warm := s.warm_eq k
  generalize s.warmClosed k = c at *
  refine ⟨{ c with warn := c.warn.reconcile c.settings.enabledLevels c.settings.enabledLevels },
    ⟨fresh.powered, fresh.phase, ?_, fresh.forming, fresh.rate⟩, noLevel, ?_,
    fun ch => (by cases ch <;> rfl : _ = c.quad ch).trans (quad ch), index, stage, rfl, rfl,
    settings, ?_⟩
  · rw [warn, WarningUnit.restart_reconcile]
  · rw [warn, settings]
  · rw [warm]
    unfold State.reconcileWarm
    rw [warn]
    rfl

/-- A change of what the float count means, from the channel in s to that in t and from the copy of
float_lines in s to the setting in t (R24, R36). -/
def State.floatMoved (s t : State) : Bool :=
  t.float.mult != s.float.mult || t.float.reversed != s.float.reversed ||
    t.num .floatLines != s.stage.linesCopy

theorem State.channelDiffers_iff {s : State} {ch : Chan} :
    s.channelDiffers ch = true ↔
      (s.quad ch).mult ≠ s.nat (multSetting ch) ∨
        (s.quad ch).reversed ≠ decide (s.nat (dirSetting ch) = 1) := by
  unfold State.channelDiffers
  simp only [Bool.or_eq_true, decide_eq_true_eq, bne_iff_ne]

/-- What reloads the encoders judges as a change of float meaning is one (R24, R36). -/
theorem State.floatMoved_iff {s r t : State} (quad : r.quad .float = s.quad .float)
    (lines : r.stage.linesCopy = s.stage.linesCopy) (settings : t.settings = r.settings)
    (loaded : t.quad .float = (s.quad .float).configure (r.nat (multSetting .float))
      (decide (r.nat (dirSetting .float) = 1))) :
    s.floatMoved t = true ↔
      r.channelDiffers .float = true ∨ r.stage.linesCopy ≠ r.num .floatLines := by
  rw [Quad.configure_eq] at loaded
  have mult : t.float.mult = r.nat (multSetting .float) := congrArg (·.mult) loaded
  have reversed : t.float.reversed = decide (r.nat (dirSetting .float) = 1) :=
    congrArg (·.reversed) loaded
  have num : t.num .floatLines = r.num .floatLines := congrArg (·.num .floatLines) settings
  have float : s.quad .float = s.float := rfl
  unfold State.floatMoved
  rw [State.channelDiffers_iff, mult, reversed, num, quad, lines, float]
  simp only [Bool.or_eq_true, bne_iff_ne]
  rw [ne_comm (a := s.float.mult), ne_comm (a := s.float.reversed), ne_comm (a := s.stage.linesCopy)]

theorem State.phaseDrops_iff {s : State} :
    s.phaseDrops = true ↔
      (s.channelDiffers .float = true ∨ s.stage.linesCopy ≠ s.num .floatLines) ∨
        s.nat .floatIndexMode = 0 := by
  unfold State.phaseDrops
  simp only [Bool.or_eq_true, decide_eq_true_eq]

theorem State.floatDiffers_iff {s : State} :
    s.floatDiffers = true ↔
      (s.channelDiffers .float = true ∨ s.stage.linesCopy ≠ s.num .floatLines) ∨
        s.stage.circCopy ≠ s.num .floatCircumference := by
  unfold State.floatDiffers
  simp only [Bool.or_eq_true, decide_eq_true_eq]

/-- The encoders after WARM (R23, R24, R36). -/
theorem State.warm_encoders (s : State) (k : ResetKind) :
    let t := s.warm k
    (∀ ch, t.quad ch =
      (s.quad ch).configure (t.nat (multSetting ch)) (decide (t.nat (dirSetting ch) = 1))) ∧
    t.index =
      { s.index with
        phase :=
          if s.floatMoved t = true ∨ t.nat .floatIndexMode = 0 then none else s.index.phase } ∧
    t.stage =
      { s.stage with
        meas := none, linesCopy := t.num .floatLines, circCopy := t.num .floatCircumference
        shaft :=
          if s.floatMoved t = true ∨ t.num .floatCircumference ≠ s.stage.circCopy then
            .unreferenced
          else s.stage.shaft } := by
  have loaded := s.warm_settings k
  obtain ⟨v, fresh, -, -, quad, index, stage, -, -, settings, warm⟩ := s.warm_levels k
  obtain ⟨quad', index', stage', -, -, settings'⟩ :=
    State.levelChanged_frame fresh.phase s.warn.current .setting
      { stage := false, rise := false, flow := false } none
  generalize v.levelChanged s.warn.current .setting
    { stage := false, rise := false, flow := false } none = r at *
  obtain ⟨quad'', index'', stage'', -⟩ := r.reloadEncoders_fields
  generalize r.reloadEncoders = n at *
  have same : (s.warm k).settings = r.settings := loaded.trans (settings'.trans settings).symm
  have quads : ∀ ch, (s.warm k).quad ch = n.quad ch := by
    rw [warm]
    intro ch
    cases ch <;> rfl
  have others : (s.warm k).index = n.index ∧ (s.warm k).stage = n.stage := by
    rw [warm]
    exact ⟨rfl, rfl⟩
  generalize s.warm k = t at *
  have nat (i : SettingId) : r.nat i = t.nat i := congrArg (·.nat i) same.symm
  have num (i : SettingId) : r.num i = t.num i := congrArg (·.num i) same.symm
  have channels (ch : Chan) : t.quad ch =
      (s.quad ch).configure (r.nat (multSetting ch)) (decide (r.nat (dirSetting ch) = 1)) := by
    rw [quads, quad'', quad', quad]
  have moved := State.floatMoved_iff ((quad' _).trans (quad _))
    (congrArg (·.linesCopy) (stage'.trans stage)) same (channels .float)
  have phase : r.phaseDrops = true ↔ s.floatMoved t = true ∨ t.nat .floatIndexMode = 0 := by
    rw [State.phaseDrops_iff, ← moved, nat]
  have shaft : r.floatDiffers = true ↔
      s.floatMoved t = true ∨ t.num .floatCircumference ≠ s.stage.circCopy := by
    rw [State.floatDiffers_iff, ← moved, num, stage', stage, ne_comm]
  refine ⟨fun ch => ?_, ?_, ?_⟩
  · rw [channels, nat, nat]
  · rw [others.1, index'', index', index,
      ite_congr (propext phase) (fun _ => rfl) fun _ => rfl]
  · rw [others.2, stage'', stage', stage,
      ite_congr (propext shaft) (fun _ => rfl) fun _ => rfl, num, num]

/-- The Warning Unit after WARM, and its LEVEL notice (R87 to R89, R97). -/
theorem State.warm_warn (s : State) (k : ResetKind) :
    let t := s.warm k
    let r := s.warn.restart.reconcile t.settings.enabledLevels t.settings.enabledLevels
    t.warn.watch = r.watch ∧ t.warn.warning = r.warning ∧ t.warn.severe = r.severe ∧
      t.warn.ack =
        (if r.current ≠ s.warn.current ∧ r.current.code < s.warn.ack.code then r.current
        else s.warn.ack) ∧
      (r.current ≠ s.warn.current →
        ∃ n, Notice.level n ∈ t.link.queue ∧ n.from_ = s.warn.current ∧ n.to_ = r.current ∧
          n.cause = .setting) := by
  have loaded := s.warm_settings k
  obtain ⟨v, fresh, noLevel, reconciled, -, -, -, -, -, -, warm⟩ := s.warm_levels k
  obtain ⟨watch, warning, severe, ack⟩ :=
    State.levelChanged_warn fresh.phase s.warn.current .setting
      { stage := false, rise := false, flow := false } none
  have notice := fun c => State.levelChanged_notice fresh (old := s.warn.current) c noLevel
    .setting { stage := false, rise := false, flow := false } none
  generalize v.levelChanged s.warn.current .setting
    { stage := false, rise := false, flow := false } none = r at *
  obtain ⟨-, -, -, warn, -, -, queue⟩ := r.reloadEncoders_fields
  generalize r.reloadEncoders = n at *
  have fields : (s.warm k).warn.watch = n.warn.watch ∧ (s.warm k).warn.warning = n.warn.warning ∧
      (s.warm k).warn.severe = n.warn.severe ∧ (s.warm k).warn.ack = n.warn.ack ∧
      (s.warm k).link.queue = n.link.queue := by
    rw [warm]
    exact ⟨rfl, rfl, rfl, rfl, rfl⟩
  generalize s.warm k = t at *
  obtain ⟨watch', warning', severe', ack', queue'⟩ := fields
  dsimp only
  rw [loaded, ← reconciled, watch', warning', severe', ack', queue', warn]
  have kept : v.warn.ack = s.warn.ack := by rw [reconciled, WarningUnit.restart_reconcile]
  refine ⟨watch, warning, severe, kept ▸ ack, fun changed => ?_⟩
  obtain ⟨m, held, about⟩ := notice changed
  exact ⟨m, queue _ held (by nofun), about⟩

theorem WarningUnit.current_congr {u w : WarningUnit} (watch : u.watch = w.watch)
    (warning : u.warning = w.warning) (severe : u.severe = w.severe) : u.current = w.current := by
  unfold WarningUnit.current
  rw [watch, warning, severe]

/-- The results, the marker and the grid after WARM (R61, R149). -/
theorem State.warm_results (s : State) (k : ResetKind) :
    let t := s.warm k
    (∀ n, n ≤ 8 → t.recmem.slot n =
      (s.recmem.slot n).map fun r =>
        if (s.marker.active = true ∧ s.marker.slot = n) ∨ r.header.status = .running then
          r.poweredOff (some s.time.runTime)
        else r) ∧
      t.marker.active = false ∧ t.samp.period = t.periodInEffect ∧
      t.samp.next = t.time.nextInstant t.samp.period := by
  have slots (n : Nat) (h : n ≤ 8) := s.warmClosed_slot k h
  have inactive := s.warmClosed_inactive k
  obtain ⟨v, fresh, -, -, -, -, -, recmem, marker, -, warm⟩ := s.warm_levels k
  obtain ⟨-, -, -, recmem', marker', -⟩ :=
    State.levelChanged_frame fresh.phase s.warn.current .setting
      { stage := false, rise := false, flow := false } none
  generalize v.levelChanged s.warn.current .setting
    { stage := false, rise := false, flow := false } none = r at *
  obtain ⟨-, -, -, -, marker'', recmem'', -⟩ := r.reloadEncoders_fields
  generalize r.reloadEncoders = n at *
  rw [← recmem, ← recmem', ← recmem''] at slots
  rw [← marker, ← marker', ← marker''] at inactive
  rw [warm]
  exact ⟨slots, inactive, rfl, rfl⟩

/-- Settles O5: WARM stage by stage; each of its three causes is the same WARM. -/
theorem warmResetKeepsRetention : Obligations.WarmResetKeepsRetention := by
  unfold Obligations.WarmResetKeepsRetention
  intro s kept
  have keeps (k : ResetKind) : s.startedAs (s.warm k) k ∧ kept (s.warm k) := by
    have startup := Startup.warm s k
    have frame := startup.frame
    obtain ⟨quad, index, stage⟩ := s.warm_encoders k
    obtain ⟨watch, warning, severe, ack, notice⟩ := s.warm_warn k
    obtain ⟨slots, inactive, period, next⟩ := s.warm_results k
    refine ⟨startup.startedAs inactive, ?_⟩
    generalize s.warm k = t at *
    have current := WarningUnit.current_congr watch warning severe
    rw [← current] at ack notice
    have top : t.warn.current.code = s.warn.kept t.settings.enabledLevels := by
      rw [current, WarningUnit.restart_reconcile_current]
    rw [WarningUnit.restart_reconcile] at watch warning severe
    refine ⟨congrArg (·.time) frame, congrArg (·.ticks) frame,
      fun ch => (quad ch).trans (Quad.configure_eq _ _ _), index, stage,
      congrArg (·.history) frame, congrArg (·.marker.runNumber) frame, slots, severe, warning,
      watch, top, ack, notice, period, next⟩
  refine ⟨⟨_, rfl, keeps .warmSupply⟩, fun powered => ⟨_, ?_, keeps .warmResetInput⟩,
    fun r powered reply restart => ⟨_, ?_, keeps .warmRestart⟩⟩
  · exact congrArg Host.Outcome.next (State.onMain_powered powered _)
  · refine congrArg Host.Outcome.next ((State.onMain_powered powered _).trans ?_)
    rw [State.replySent_some reply, if_pos restart]

end Sys2Proof.Machine
end

section
/-! SUPPORT. What one step can come to, said once: an event, a loss of POWER_GOOD, a reset, the end of a
reply, the end of a long operation, or a request answered. -/

namespace Sys2Proof.Machine

/-- The states that one command or one tick can leave, by what brings them about. A request served is a
command that the Link Unit listens to, an operation ended is one in flight (R120, R183). -/
inductive StepEffect (s : State) : State → Prop
  | event {t : State} (leaves : EventLeaves s t) : StepEffect s t
  | powerLost : StepEffect s s.losePower
  | cold : StepEffect s s.cold
  | warm (k : ResetKind) : StepEffect s (s.warm k)
  | replyEnded : StepEffect s { s with link := { s.link with reply := none } }
  | commitDone (ok : Bool) (flight : s.inFlight .rating = true) : StepEffect s (s.commitDone ok)
  | settingsDone (ok : Bool) (flight : s.inFlight .settings = true) :
      StepEffect s (s.settingsDone ok)
  | storeDone (ok : Bool) (flight : s.inFlight .planStore = true) :
      StepEffect s (s.storeDone s.opSlot ok)
  | loadDone (ok : Bool) (flight : s.inFlight .planLoad = true) :
      StepEffect s (s.loadDone s.opSlot ok)
  | answered (i : Instr) (kind tag : Byte) (listens : s.listening = true) :
      StepEffect s ((s.answer i).reply kind tag)
  | malformed (kind tag : Byte) (listens : s.listening = true) :
      StepEffect s ((s.reqInvalid kind).reply kind tag)

namespace StepEffect

theorem refl (s : State) : StepEffect s s := event (.refl s)

theorem ite {s t u : State} {p : Prop} [Decidable p] (h : p → StepEffect s t)
    (k : StepEffect s u) : StepEffect s (if p then t else u) := by
  split
  · next holds => exact h holds
  · exact k

theorem onMain {s : State} {f : State → State} (h : StepEffect s (f s)) :
    StepEffect s (s.onMain f) := ite (fun _ => h) (refl s)

/-! The link (R181 to R184, R192). -/

theorem hunt (s : State) : StepEffect s s.hunt := event (by constructor <;> rfl)

theorem setRx (s : State) (r : Receiver) : StepEffect s (s.setRx r) :=
  event (by constructor <;> rfl)

theorem serve {s : State} {kind tag : Byte} {f : State → Answer}
    (h : s.listening = true → StepEffect s ((f s).reply kind tag)) :
    StepEffect s (s.serve kind tag f) := ite h (refl s)

theorem unknown (s : State) (kind tag : Byte) : StepEffect s (s.serve kind tag State.reqUnknown) :=
  serve (answered .coldReset kind tag)

theorem answerFrame (s : State) (kind tag : Byte) (p : List Byte) (ok : Bool) :
    StepEffect s (s.serve kind tag (State.answerFrame kind tag p ok)) := by
  refine serve fun listens => ?_
  unfold State.answerFrame
  split
  · next i _ => exact answered i kind tag listens
  · exact malformed kind tag listens
  · exact answered .coldReset kind tag listens

theorem takeFrame (s : State) (bytes : List Byte) (ok : Bool) :
    StepEffect s (s.takeFrame bytes ok) := by
  unfold State.takeFrame
  refine ite (fun _ => ?_) (hunt s)
  split
  · exact answerFrame s _ _ _ ok
  · exact hunt s

theorem receive (s : State) (b : Byte) (ok : Bool) : StepEffect s (s.receive b ok) := by
  unfold State.receive
  refine ite (fun _ => ?_) (refl s)
  split
  · exact ite (fun _ => setRx s _) (refl s)
  · exact ite (fun _ => hunt s) (ite (fun _ => setRx s _) (takeFrame s _ ok))

theorem discardAtLength (s : State) : StepEffect s s.discardAtLength := by
  refine onMain ?_
  split
  · exact hunt s
  · exact refl s

theorem replySent (s : State) : StepEffect s s.replySent := by
  cases r : s.link.reply with
  | none =>
    unfold State.replySent
    rw [r]
    exact refl s
  | some _ =>
    rw [State.replySent_some r]
    exact ite (fun _ => warm .warmRestart) replyEnded

/-! The commands (12.4 and the events of chapters 0 to 9). -/

/-- A command that is no request. -/
theorem ofEvent {s t : State} {c : Instr} (r : encodeRequest c = none) (e : exec c s = .next t) :
    StepEffect s t := by
  have next {u : State} (h : StepEffect s u)
      (e : (.next u : Host.Outcome State Fault Refusal) = .next t) : StepEffect s t := by
    cases e
    exact h
  have main {f : State → State} (l : EventLeaves s (f s)) : StepEffect s (s.onMain f) :=
    event (EventLeaves.onMain l)
  have run {f : State → State} (l : RunLeaves s (f s)) : StepEffect s (s.onMain f) :=
    main (EventLeaves.ofRun l)
  have small {u v : State} (h : EventLeaves s u) (k : EventLeaves u v) : StepEffect s v :=
    event (h.trans k)
  cases c with
  | coldReset => exact next cold e
  | warmSupplyReturn => exact next (warm .warmSupply) e
  | resetInputPulse =>
    exact next (onMain (f := fun t => t.warm .warmResetInput) (warm .warmResetInput)) e
  | powerGoodLoss => exact next powerLost e
  | secondEvent => exact next (small (.setTime s _ s.lock _) (.second _)) e
  | windowClose n => exact next (event (.closeWindow s n)) e
  | multiplierLock => exact next (main (f := State.locks) (by constructor <;> rfl)) e
  | gridInstant => exact next (main (.gridInstant s)) e
  | pressureEdge b => exact next (main (.pressurePulse s b)) e
  | pressureComplete b => exact next (main (.pressureDone s b)) e
  | pressureTimeout => exact next (main (.failPressure s _)) e
  | quadratureTransition ch a b => exact next (event (.observePair s ch a b)) e
  | floatIndexEdge => exact next (event (t := s.floatIndex) (by constructor <;> rfl)) e
  | rotorEdge n =>
    exact next (small (.tickBy n s) (.onMain (f := State.rotorPulse) (by constructor <;> rfl))) e
  | contactRawChange i b n => exact next (small (.tickBy n s) (.rawChange _ i b)) e
  | debounceExpiry i => exact next (main (.debounced s i)) e
  | driveStall => exact next (run ((RunLeaves.driveStall s).trans (.report _))) e
  | settleEnd => exact next (run ((RunLeaves.driveSettled s).trans (.report _))) e
  | exposureStart => exact next (run (.startExposure s)) e
  | exposureExpiry => exact next (run (.endExposure s)) e
  | holdLimitExpiry => exact next (run (.holdExpired s)) e
  | cadenceSlot => exact next (main (.startSlot s _)) e
  | ratingCommitComplete ok => exact next (onMain (ite (commitDone ok) (refl s))) e
  | settingsStoreComplete ok => exact next (onMain (ite (settingsDone ok) (refl s))) e
  | planStoreComplete ok => exact next (onMain (ite (storeDone ok) (refl s))) e
  | planLoadComplete ok => exact next (onMain (ite (loadDone ok) (refl s))) e
  | frameInterbyteTimeout => exact next (onMain (hunt s)) e
  | frameLengthInvalid => exact next (discardAtLength s) e
  | frameByteFramingError => exact next (onMain (hunt s)) e
  | frameCrcMismatch => exact next (onMain (hunt s)) e
  | replySent => exact next (onMain (replySent s)) e
  | unknownRequest kind tag => exact next (ite (fun _ => refl s) (unknown s kind tag)) e
  | frameByteReceived b ok => exact next (receive s b ok) e
  | _ => cases r

theorem ofExec {s t : State} {c : Instr} (e : exec c s = .next t) : StepEffect s t := by
  cases r : encodeRequest c with
  | none => exact ofEvent r e
  | some p =>
    obtain ⟨kind, tag, payload⟩ := p
    rw [exec_request c s r] at e
    cases e
    exact serve (answered c kind tag)

end StepEffect

/-- What a step comes to, from the state with its command taken off the queue. -/
theorem step_cases {s t : State} (e : step s = .next t) :
    ∃ rest, StepEffect { s with pending := rest } t := by
  unfold step at e
  split at e
  · cases e
    exact ⟨s.pending, .event (.tick s)⟩
  · next c rest _ => exact ⟨rest, .ofExec e⟩

end Sys2Proof.Machine
end

section
/-! SUPPORT. What leaves the same as an event does: what PUT_SETTING does at once, but for the two settings that
reach O_p and the plan buffer (R40, R117), and the requests that write no table, store or offset. -/

namespace Sys2Proof.Machine

namespace EventLeaves

theorem shaftMeaning (s : State) : EventLeaves s s.shaftMeaning := setShaft s .unreferenced none none

theorem dropPhase (s : State) : EventLeaves s s.dropPhase := by constructor <;> rfl

theorem copyFloat (s : State) : EventLeaves s s.copyFloat := by constructor <;> rfl

theorem axisChanged (s : State) (ax : Axis) : EventLeaves s (s.axisChanged ax) :=
  ofRun ((RunLeaves.axisMeaning s ax).trans (RunLeaves.report _))

theorem configureChannel (s : State) (ch : Chan) : EventLeaves s (s.configureChannel ch) :=
  setQuad s ch _

theorem encoderWritten (s : State) (ch : Chan) : EventLeaves s (s.encoderWritten ch) := by
  unfold State.encoderWritten
  refine ite (trans (configureChannel s ch) ?_) (configureChannel s ch)
  split
  · exact trans (dropPhase _) (shaftMeaning _)
  · exact axisChanged _ _

theorem linesWritten (s : State) (b : Bool) : EventLeaves s (s.linesWritten b) :=
  ite (trans (copyFloat s) (trans (dropPhase _) (shaftMeaning _))) (copyFloat s)

theorem circWritten (s : State) (b : Bool) : EventLeaves s (s.circWritten b) :=
  ite (trans (copyFloat s) (shaftMeaning _)) (copyFloat s)

theorem silence (s : State) : EventLeaves s s.silence := ite (refl s) (by constructor <;> rfl)

theorem lockoutWritten (s : State) (b : Bool) : EventLeaves s (s.lockoutWritten b) :=
  ite (refl s) (ofRun (RunLeaves.lockoutChanged _ _))

theorem settingWritten (s old : State) {i : SettingId} (offset : i ≠ .pressureOffset)
    (tolerance : i ≠ .positionTolerance) : EventLeaves s (s.settingWritten old i) := by
  cases i with
  | floatMultiplier | floatDirection => exact encoderWritten s .float
  | travelMultiplier | travelDirection => exact encoderWritten s .travel
  | reelMultiplier | reelDirection => exact encoderWritten s .reel
  | floatIndexMode => exact ite (dropPhase s) (refl s)
  | debounceSurface => exact debounceIfDue s .surface
  | debounceBed => exact debounceIfDue s .bed
  | debounceReelTop => exact debounceIfDue s .reelTop
  | debounceLimitNear => exact debounceIfDue s .limitNear
  | debounceLimitFar => exact debounceIfDue s .limitFar
  | debounceDriveFault => exact debounceIfDue s .driveFault
  | debounceDoor => exact debounceIfDue s .door
  | debounceSpare => exact debounceIfDue s .spare
  | floatLines => exact linesWritten s _
  | floatCircumference => exact circWritten s _
  | pressureOffset => exact absurd rfl offset
  | baseInterval | stormDivisor | stormLevel => exact refreshPeriod s
  | watchStageOn | watchRiseOn | watchFlowOn | warningStageOn | warningRiseOn | warningFlowOn
  | severeStageOn | severeRiseOn | severeFlowOn => exact reconcile s _
  | lockoutLevel => exact lockoutWritten s _
  | sirenLevel => exact silence s
  | travelCircumference | travelLines => exact ite (axisChanged s .travel) (refl s)
  | reelCircumference | reelLines => exact ite (axisChanged s .reel) (refl s)
  | positionTolerance => exact absurd rfl tolerance
  | _ => exact refl s

/-! Requests that leave the same as an event does (chapters 1, 2, 5 to 9, 11 and 12). -/

/-- Two ways to answer, each of which leaves the same. -/
theorem answerIte {s : State} {p : Prop} [Decidable p] {a b : Answer} (h : EventLeaves s a.state)
    (k : EventLeaves s b.state) : EventLeaves s (if p then a else b).state := by
  split
  · exact h
  · exact k

theorem reqClockCrystal (s : State) : EventLeaves s s.reqClockCrystal.state := by
  unfold State.reqClockCrystal
  split <;> constructor <;> rfl

theorem reqClockRc (s : State) : EventLeaves s s.reqClockRc.state := by
  unfold State.reqClockRc
  split
  · exact refl s
  · exact changeSource s _
  · exact refl s

theorem reqGetSetting (s : State) (id : BitVec 16) : EventLeaves s (s.reqGetSetting id).state := by
  unfold State.reqGetSetting
  split <;> exact refl s

theorem reqGetRating (s : State) (k : Nat) : EventLeaves s (s.reqGetRating k).state := by
  unfold State.reqGetRating
  dsimp only
  split <;> exact refl s

theorem reqGetPlan (s : State) (k : Nat) : EventLeaves s (s.reqGetPlan k).state :=
  answerIte (refl s) (refl s)

theorem reqAck (s : State) (l : Nat) : EventLeaves s (s.reqAck l).state := by
  unfold State.reqAck
  split
  · exact refl s
  · exact answerIte (refl s) (trans (setWarn s _) (silence _))

theorem reqArm (s : State) (l : Byte) (n : Bool) : EventLeaves s (s.reqArm l n).state :=
  answerIte (refl s) (by constructor <;> rfl)

theorem reqDisarm (s : State) (l : Byte) : EventLeaves s (s.reqDisarm l).state :=
  answerIte (refl s) (by constructor <;> rfl)

theorem reqSelect (s : State) (l p : Byte) : EventLeaves s (s.reqSelect l p).state :=
  answerIte (refl s) (by constructor <;> rfl)

theorem reqJog (s : State) (ax : Axis) (k : MoveKind) : EventLeaves s (s.reqJog ax k).state := by
  have move := ofRun (RunLeaves.requestMove s
    { requester := .host, axis := ax, kind := k, speed := .auto })
  refine answerIte (refl s) ?_
  split <;> next e => rw [e] at move; exact move

theorem reqStop (s : State) : EventLeaves s s.reqStop.state := by
  have stop := ofRun ((RunLeaves.stopMove s .host).trans (RunLeaves.report (s.stopMove .host)))
  unfold State.reqStop
  split
  · exact refl s
  · exact stop
  · exact stop
  · exact answerIte (refl s) (ofRun (RunLeaves.clearDrive s))

theorem claimRun (s : State) (p : StoredPlan) : EventLeaves s (s.claimRun p) where
  slotCount := List.length_set
  powered := rfl
  rating := rfl
  plan := rfl
  flash := rfl
  settings := rfl
  stored := rfl
  identity := rfl
  pending := rfl
  reply := rfl
  restart := rfl
  resetItem := rfl
  shaftOffset := rfl
  pressOffset := rfl

theorem reqStartRun (s : State) : EventLeaves s s.reqStartRun.state := by
  refine answerIte (refl s) ?_
  split
  · exact refl s
  · refine answerIte (refl s) (answerIte (refl s) ?_)
    split
    · exact refl s
    · exact refl s
    · exact refl s
    · exact trans (claimRun _ _) (ofRun (RunLeaves.runDo _ _))

theorem reqHold (s : State) : EventLeaves s s.reqHold.state :=
  answerIte (ofRun (RunLeaves.addHold s fun c => { c with host := true })) (refl s)

theorem clearCauses (s : State) : EventLeaves s s.clearCauses := by
  have host := RunLeaves.modRun s fun r => { r with causes := { r.causes with host := false } }
  unfold State.clearCauses
  dsimp only
  split
  · have cleared := host.trans (RunLeaves.clearDrive _)
    split
    · exact ofRun (cleared.trans (RunLeaves.modRun _ _))
    · exact ofRun cleared
  · exact ofRun host

theorem reqResume (s : State) : EventLeaves s s.reqResume.state := by
  refine answerIte (refl s) ?_
  split
  · exact refl s
  · exact refl s
  · exact answerIte (trans (clearCauses s) (ofRun (RunLeaves.runDo _ _)))
      (answerIte (clearCauses s) (clearCauses s))

theorem reqAbort (s : State) : EventLeaves s s.reqAbort.state := by
  unfold State.reqAbort
  split
  · exact refl s
  · exact refl s
  · exact ofRun (RunLeaves.abortHeld s _)
  · exact ofRun (RunLeaves.abortActive s)

theorem reqSeekSeq (s : State) (n : Nat) : EventLeaves s (s.reqSeekSeq n).state := by
  have seek (c : Option Nat) (b : Bool) : EventLeaves s (s.seekTo c b).state := by
    constructor <;> rfl
  unfold State.reqSeekSeq
  split
  · exact seek _ _
  · exact answerIte (seek _ _) (answerIte (seek _ _) (seek _ _))

theorem reqReadForward (s : State) (n : Nat) : EventLeaves s (s.reqReadForward n).state := by
  unfold State.reqReadForward
  split <;> constructor <;> rfl

theorem reqReadBackward (s : State) (n : Nat) : EventLeaves s (s.reqReadBackward n).state := by
  unfold State.reqReadBackward
  dsimp only
  split <;> constructor <;> rfl

theorem reqResultHeader (s : State) (n : SlotName) : EventLeaves s (s.reqResultHeader n).state := by
  refine answerIte (refl s) ?_
  split <;> exact refl s

theorem reqResultVerticals (s : State) (n : SlotName) (k : Nat) :
    EventLeaves s (s.reqResultVerticals n k).state := by
  refine answerIte (refl s) ?_
  split <;> exact refl s

theorem reqTakeNotice (s : State) : EventLeaves s s.reqTakeNotice.state := by
  unfold State.reqTakeNotice
  split <;> constructor <;> rfl

theorem reqInvalid (s : State) (kind : Byte) : EventLeaves s (s.reqInvalid kind).state := by
  unfold State.reqInvalid
  split <;> exact refl s

end EventLeaves

end Sys2Proof.Machine
end

section
/-! PROOF. Every step keeps the rating tables ordered and a VALID plan buffer without fault (R69, R73, R75 to
R79, R117, R118, R125). -/

namespace Sys2Proof.Machine

open Sys2Proof.Config

/-- From s to t the Rating Unit, the Plan Store and position_tolerance stand. -/
structure TablesStand (s t : State) : Prop where
  rating : t.rating = s.rating
  plan : t.plan = s.plan
  tolerance : t.num .positionTolerance = s.num .positionTolerance

/-- From s to t the rating tables stay sound, and the plan buffer does. -/
structure TablesKept (s t : State) : Prop where
  rating : s.rating.sound → t.rating.sound
  plan : s.planSound → t.planSound

namespace TablesKept

theorem trans {s t u : State} (h : TablesKept s t) (k : TablesKept t u) : TablesKept s u :=
  ⟨fun sound => k.rating (h.rating sound), fun sound => k.plan (h.plan sound)⟩

/-- What writes the rating alone. -/
theorem ofRating {s t : State} (rating : s.rating.sound → t.rating.sound) (plan : t.plan = s.plan)
    (tolerance : t.num .positionTolerance = s.num .positionTolerance) : TablesKept s t where
  rating := rating
  plan h := by
    unfold State.planSound
    rw [plan, tolerance]
    exact h

/-- What writes the plans alone. -/
theorem ofPlan {s t : State} (rating : t.rating = s.rating) (plan : s.planSound → t.planSound) :
    TablesKept s t := ⟨(rating ▸ ·), plan⟩

/-- What empties the plan buffer or leaves it UNVALIDATED. -/
theorem ofUnvalidated {s t : State} (rating : t.rating = s.rating) (buffer : t.plan.buffer ≠ .valid)
    (entries : t.plan.entries.length = s.plan.entries.length)
    (slots : t.plan.slots.length = s.plan.slots.length) : TablesKept s t :=
  ofPlan rating fun ⟨_, e, p⟩ => ⟨fun valid => absurd valid buffer, entries.trans e, slots.trans p⟩

end TablesKept

/-! What stands. -/

namespace TablesStand

theorem refl (s : State) : TablesStand s s := ⟨rfl, rfl, rfl⟩

theorem trans {s t u : State} (h : TablesStand s t) (k : TablesStand t u) : TablesStand s u :=
  ⟨k.rating.trans h.rating, k.plan.trans h.plan, k.tolerance.trans h.tolerance⟩

theorem ofEvent {s t : State} (h : EventLeaves s t) : TablesStand s t :=
  ⟨h.rating, h.plan, congrArg (·.num .positionTolerance) h.settings⟩

theorem kept {s t : State} (h : TablesStand s t) : TablesKept s t :=
  .ofRating (h.rating ▸ ·) h.plan h.tolerance

/-- Two ways to answer, after each of which the tables stand. -/
theorem ite {s : State} {p : Prop} [Decidable p] {a b : Answer} (h : TablesStand s a.state)
    (k : TablesStand s b.state) : TablesStand s (if p then a else b).state := by
  split
  · exact h
  · exact k

/-! Requests that write what events leave, but no table (R41, R42, R190, R191). -/

theorem concludeOp (s : State) (n : LongOpNotice) : TablesStand s (s.concludeOp n) :=
  trans (by constructor <;> rfl) (ofEvent (EventLeaves.raise _ _))

theorem settingsDone (s : State) (ok : Bool) : TablesStand s (s.settingsDone ok) :=
  trans (by constructor <;> rfl) (concludeOp _ _)

theorem reqReferenceShaft (s : State) (x : Int) : TablesStand s (s.reqReferenceShaft x).state :=
  trans (by constructor <;> rfl)
    (ofEvent ((EventLeaves.setShaft _ .healthy none none).trans
      (EventLeaves.setDisagree _ false 0 none none)))

theorem reqReferencePressure (s : State) (x : Int) :
    TablesStand s (s.reqReferencePressure x).state := by
  unfold State.reqReferencePressure
  split
  · exact refl s
  · exact ite (trans (by constructor <;> rfl) (ofEvent (EventLeaves.setDisagree _ false 0 none none)))
      (refl s)

theorem reqStoreSettings (s : State) : TablesStand s s.reqStoreSettings.state := by
  unfold State.reqStoreSettings
  split <;> constructor <;> rfl

theorem reqSetIdentity (s : State) (n : Nat) (ok : Bool) :
    TablesStand s (s.reqSetIdentity n ok).state :=
  ite (refl s) (ite (refl s) (ite (by constructor <;> rfl) (refl s)))

end TablesStand

/-- The end of an operation keeps what its own effect keeps. -/
theorem TablesKept.concluded {s t : State} (h : TablesKept s t) (n : LongOpNotice) :
    TablesKept s (t.concludeOp n) := h.trans (TablesStand.concludeOp t n).kept

/-! The rating tables (R69, R73 to R78). -/

/-- A table without a fault is in the order of R69. -/
theorem commitFault_eq_none {rows : List Row} :
    commitFault rows = none ↔
      2 ≤ rows.length ∧ rows.Pairwise fun a b => a.stage < b.stage ∧ a.flow ≤ b.flow := by
  unfold commitFault
  split
  · simp only [reduceCtorEq, false_iff]
    omega
  · simp only [orderFault_eq_none]
    constructor
    · intro h
      exact ⟨by omega, h⟩
    · exact And.right

theorem nextGeneration_le {g : Nat} (h : g ≤ max16) : nextGeneration g ≤ max16 := by
  unfold nextGeneration
  split
  · exact Nat.zero_le _
  · omega

/-- The row that PUT_RATING_ROW stores (R73). -/
def clampedRow (stage flow : Int) : Row :=
  { stage := clampInt stageMin stageMax stage, flow := clampInt 0 dischargeMax flow }

/-- It lies in its ranges (R73). -/
theorem clampedRow_sound (stage flow : Int) : (clampedRow stage flow).sound := by
  obtain ⟨low, high⟩ := clampInt_range (by decide : stageMin ≤ stageMax) stage
  obtain ⟨least, most⟩ := clampInt_range (by decide : (0 : Int) ≤ dischargeMax) flow
  exact ⟨low, high, least, most⟩

/-- What a reset judges VALID is an ordered table, which becomes the active one (R69, R79). -/
theorem RatingUnit.reload_sound {u : RatingUnit} (h : u.sound) : u.reload.sound := by
  obtain ⟨-, -, -, generation, -⟩ := h
  unfold RatingUnit.reload
  cases judged : judgeRating u.stored with
  | none => exact ⟨.inl rfl, Nat.zero_le _, rfl, Nat.zero_le _, rfl, Nat.zero_le _, nofun⟩
  | some c =>
    obtain ⟨held, -, ordered⟩ := judgeRating_eq_some.1 judged
    rw [held] at generation
    exact ⟨.inr ordered, generation, decide_eq_true ordered, generation, rfl, Nat.zero_le _, nofun⟩

/-- A row of the staging table replaced, or one appended below 24 (R73). -/
theorem reqPutRow_kept (s : State) (k : Nat) (stage flow : Int) :
    TablesKept s (s.reqPutRow k stage flow).state := by
  have row := clampedRow_sound stage flow
  unfold State.reqPutRow
  dsimp only
  split
  · refine .ofRating (fun h => ?_) rfl rfl
    obtain ⟨active, generation, stored, storedGeneration, image, length, rows⟩ := h
    refine ⟨active, generation, stored, storedGeneration, image, ?_, fun r hr => ?_⟩
    · exact Nat.le_trans (Nat.le_of_eq List.length_set) length
    · obtain held | rfl := List.mem_or_eq_of_mem_set hr
      · exact rows r held
      · exact row
  · split
    · next below =>
      refine .ofRating (fun h => ?_) rfl rfl
      obtain ⟨active, generation, stored, storedGeneration, image, -, rows⟩ := h
      refine ⟨active, generation, stored, storedGeneration, image, ?_, fun r hr => ?_⟩
      · exact Nat.le_trans (Nat.le_of_eq List.length_append) below.2
      · obtain held | last := List.mem_append.1 hr
        · exact rows r held
        · exact List.mem_singleton.1 last ▸ row
    · exact (TablesStand.refl s).kept

theorem reqClearStaging_kept (s : State) : TablesKept s s.reqClearStaging.state := by
  refine .ofRating (fun h => ?_) rfl rfl
  obtain ⟨active, generation, stored, storedGeneration, image, -, -⟩ := h
  exact ⟨active, generation, stored, storedGeneration, image, Nat.zero_le _, nofun⟩

/-- The staging table becomes the commit image when it has no fault (R75, R76). -/
theorem reqCommit_kept (s : State) : TablesKept s s.reqCommit.state := by
  unfold State.reqCommit
  dsimp only
  split
  · exact (TablesStand.refl s).kept
  · exact (TablesStand.refl s).kept
  · next faultless _ =>
    refine .ofRating (fun h => ?_) rfl rfl
    obtain ⟨active, generation, -, -, -, length, rows⟩ := h
    obtain ⟨two, ordered⟩ := commitFault_eq_none.1 faultless
    exact ⟨active, generation, rfl, Nat.zero_le _, decide_eq_true ⟨two, length, ordered, rows⟩,
      length, rows⟩

/-- The commit image becomes the active table and the stored copy, or is dropped (R77, R78). -/
theorem commitDone_kept (s : State) (ok : Bool) : TablesKept s (s.commitDone ok) := by
  unfold State.commitDone
  split
  · exact (TablesStand.refl s).kept
  · next rows held =>
    split
    · refine .concluded ?_ _
      refine .ofRating (fun h => ?_) rfl rfl
      obtain ⟨-, generation, -, -, image, length, staging⟩ := h
      rw [held] at image
      have ordered : tableOrdered rows := of_decide_eq_true image
      have next := nextGeneration_le generation
      exact ⟨.inr ordered, next, image, next, rfl, length, staging⟩
    · refine .concluded ?_ _
      refine .ofRating (fun h => ?_) rfl rfl
      obtain ⟨active, generation, -, -, -, length, staging⟩ := h
      exact ⟨active, generation, rfl, Nat.zero_le _, rfl, length, staging⟩

/-! The plan buffer and the slots (R115 to R118, R122 to R125). -/

theorem reqPutHeader_kept (s : State) (n : List Byte) (c m : Nat) :
    TablesKept s (s.reqPutHeader n c m).state := by
  unfold State.reqPutHeader
  split
  · split
    · exact (TablesStand.refl s).kept
    · exact .ofUnvalidated rfl nofun rfl rfl
  · exact (TablesStand.refl s).kept

theorem reqPutVertical_kept (s : State) (k : Nat) (e : VertForm) :
    TablesKept s (s.reqPutVertical k e).state := by
  unfold State.reqPutVertical
  split
  · exact (TablesStand.refl s).kept
  · split
    · exact (TablesStand.refl s).kept
    · split
      · exact (TablesStand.refl s).kept
      · exact .ofUnvalidated rfl nofun List.length_set rfl

/-- The buffer becomes VALID when its judgement finds no fault (R118). -/
theorem reqValidate_kept (s : State) : TablesKept s s.reqValidate.state := by
  unfold State.reqValidate
  split
  · exact (TablesStand.refl s).kept
  · split
    · next faultless =>
      exact .ofPlan rfl fun ⟨_, entries, slots⟩ => ⟨fun _ => faultless, entries, slots⟩
    · exact .ofUnvalidated rfl nofun rfl rfl

/-- What writes plan slots and images alone. -/
theorem TablesKept.ofSlots {s t : State} (rating : t.rating = s.rating)
    (buffer : t.plan.buffer = s.plan.buffer) (header : t.plan.header = s.plan.header)
    (entries : t.plan.entries = s.plan.entries)
    (slots : t.plan.slots.length = s.plan.slots.length)
    (tolerance : t.num .positionTolerance = s.num .positionTolerance) : TablesKept s t := by
  refine ofPlan rating fun h => ?_
  unfold State.planSound
  rw [buffer, header, entries, slots, tolerance]
  exact h

theorem reqStorePlan_kept (s : State) (n : Nat) : TablesKept s (s.reqStorePlan n).state := by
  unfold State.reqStorePlan
  split
  · exact (TablesStand.refl s).kept
  · split
    · exact (TablesStand.refl s).kept
    · split
      · exact (TablesStand.refl s).kept
      · exact .ofSlots rfl rfl rfl rfl List.length_set rfl

theorem startLoad_kept (s : State) (n : Nat) : TablesKept s (s.startLoad n) :=
  .ofSlots rfl rfl rfl rfl rfl rfl

theorem reqLoadPlan_kept (s : State) (n : Nat) : TablesKept s (s.reqLoadPlan n).state := by
  unfold State.reqLoadPlan
  split
  · exact (TablesStand.refl s).kept
  · split
    · exact startLoad_kept s n
    · split
      · exact (TablesStand.concludeOp s _).kept.trans (startLoad_kept _ n)
      · exact (TablesStand.refl s).kept

theorem storeDone_kept (s : State) (n : Nat) (ok : Bool) : TablesKept s (s.storeDone n ok) := by
  refine .concluded ?_ _
  exact .ofSlots rfl rfl rfl rfl List.length_set rfl

theorem StoredPlan.buffer_length (p : StoredPlan) : p.buffer.length = 32 := by
  simp [StoredPlan.buffer]

/-- A loaded plan makes the buffer VALID when its judgement finds no fault (R125). -/
theorem loadDone_kept (s : State) (n : Nat) (ok : Bool) : TablesKept s (s.loadDone n ok) := by
  unfold State.loadDone
  dsimp only
  split
  · refine .concluded ?_ _
    exact .ofSlots rfl rfl rfl rfl rfl rfl
  · next c _ =>
    split
    · refine .concluded ?_ _
      refine .ofPlan rfl fun ⟨_, _, slots⟩ => ⟨fun valid => ?_, ?_, slots⟩
      · cases fault : planFault (s.num .positionTolerance) (some c.plan.header) c.plan.buffer with
        | none => exact fault
        | some f => simp [State.endOp, fault] at valid
      · exact c.plan.buffer_length
    · refine .concluded ?_ _
      exact .ofSlots rfl rfl rfl rfl List.length_set rfl

/-! Settings (R117, R189). -/

/-- The written copy holds the accepted value and no other change. -/
theorem Settings.write_some {t u : Settings} {i : SettingId} {v : Option Int} {c : Bool}
    (h : t.write i v = some (u, c)) : ∃ w, u = t.put i w := by
  unfold Settings.write at h
  split at h
  · cases h
  · next w _ _ =>
    split at h
    · cases h
      exact ⟨w, rfl⟩
    · cases h

/-- A changed position_tolerance leaves no buffer VALID (R117). -/
theorem toleranceChanged_kept (s t : State) (rating : t.rating = s.rating) (plan : t.plan = s.plan) :
    TablesKept s t.toleranceChanged := by
  unfold State.toleranceChanged
  split
  · exact .ofUnvalidated rating nofun (congrArg (·.entries.length) plan)
      (congrArg (·.slots.length) plan)
  · next invalid =>
    exact .ofUnvalidated rating invalid (congrArg (·.entries.length) plan)
      (congrArg (·.slots.length) plan)

/-- position_tolerance written: the buffer stands where its value is the one before (R117). -/
theorem toleranceWritten_kept (s : State) (w : Option Int) :
    TablesKept s ({ s with settings := s.settings.put .positionTolerance w }.settingWritten s
      .positionTolerance) := by
  unfold State.settingWritten
  dsimp only
  split
  · exact toleranceChanged_kept s _ rfl rfl
  · next same =>
    have value := Decidable.not_not.1 (mt decide_eq_true same)
    exact .ofRating id rfl (congrArg (·.getD 0) value)

theorem reqPutSetting_kept (s : State) (id : BitVec 16) (v : Option Int) :
    TablesKept s (s.reqPutSetting id v).state := by
  cases listed : settingOfCode id with
  | none => rw [State.reqPutSetting_unlisted s v listed]; exact (TablesStand.refl s).kept
  | some i =>
    cases write : s.settings.write i v with
    | none => rw [State.reqPutSetting_refused listed write]; exact (TablesStand.refl s).kept
    | some p =>
      obtain ⟨t, c⟩ := p
      obtain ⟨w, rfl⟩ := Settings.write_some write
      rw [State.reqPutSetting_admitted listed write]
      by_cases tolerance : i = .positionTolerance
      · subst tolerance
        exact toleranceWritten_kept s w
      · have stands : TablesStand s { s with settings := s.settings.put i w } :=
          ⟨rfl, rfl, congrArg (·.getD 0) (Settings.get_put_ne _ _ (Ne.symm tolerance))⟩
        by_cases offset : i = .pressureOffset
        · subst offset
          exact TablesStand.kept ⟨stands.rating, stands.plan, stands.tolerance⟩
        · exact (stands.trans (.ofEvent (EventLeaves.settingWritten _ s offset tolerance))).kept

/-! The requests and the step. -/

/-- Every request keeps the tables. -/
theorem answer_kept (s : State) (i : Instr) : TablesKept s (s.answer i).state := by
  have event {a : Answer} (h : EventLeaves s a.state) : TablesKept s a.state :=
    (TablesStand.ofEvent h).kept
  cases i with
  | putRatingRow _ k h q => exact reqPutRow_kept s k h q
  | clearRatingStaging _ => exact reqClearStaging_kept s
  | commitRating _ => exact reqCommit_kept s
  | putPlanHeader _ n c m => exact reqPutHeader_kept s n c m
  | putVertical _ k e => exact reqPutVertical_kept s k e
  | validatePlan _ => exact reqValidate_kept s
  | storePlan _ n => exact reqStorePlan_kept s n
  | loadPlan _ n => exact reqLoadPlan_kept s n
  | putSetting _ id v => exact reqPutSetting_kept s id v
  | storeSettings _ => exact (TablesStand.reqStoreSettings s).kept
  | setReferenceShaft _ x => exact (TablesStand.reqReferenceShaft s x).kept
  | setReferencePressure _ x => exact (TablesStand.reqReferencePressure s x).kept
  | setIdentity _ n ok => exact (TablesStand.reqSetIdentity s n.toNat ok).kept
  | setClockSourceCrystal _ => exact event (.reqClockCrystal s)
  | setClockSourceRc _ => exact event (.reqClockRc s)
  | getSetting _ id => exact event (.reqGetSetting s id)
  | getRating _ t => exact event (.reqGetRating s t)
  | getPlan _ k => exact event (.reqGetPlan s k)
  | ackWarning _ l => exact event (.reqAck s l)
  | setCaptureArm _ l n => exact event (.reqArm s l n)
  | setCaptureDisarm _ l => exact event (.reqDisarm s l)
  | setCaptureSelect _ l p => exact event (.reqSelect s l p)
  | jogTravelPosition _ _ | jogTravelHome _ | jogReelPayout _ _ | jogReelTop _ =>
    exact event (.reqJog s _ _)
  | stop _ => exact event (.reqStop s)
  | startRun _ => exact event (.reqStartRun s)
  | holdRun _ => exact event (.reqHold s)
  | resumeRun _ => exact event (.reqResume s)
  | abortRun _ => exact event (.reqAbort s)
  | archiveSeekSeq _ n => exact event (.reqSeekSeq s n.toNat)
  | archiveReadForward _ n => exact event (.reqReadForward s n)
  | archiveReadBackward _ n => exact event (.reqReadBackward s n)
  | resultReadHeader _ n => exact event (.reqResultHeader s n)
  | resultReadVerticals _ n k => exact event (.reqResultVerticals s n k)
  | takeNotice _ => exact event (.reqTakeNotice s)
  | _ => exact TablesStand.kept ⟨rfl, rfl, rfl⟩

/-- A reset reads the rating from flash and empties the plan buffer (R69, R79, R117). -/
theorem TablesKept.ofReset {s t : State} (rating : t.rating = s.rating.reload)
    (plan : t.plan = .start (s.plan.slots.map judgeSlot)) : TablesKept s t where
  rating h := rating ▸ RatingUnit.reload_sound h
  plan h := by
    obtain ⟨-, -, slots⟩ := h
    unfold State.planSound
    rw [plan]
    exact ⟨nofun, rfl, List.length_map _ |>.trans slots⟩

theorem cold_kept (s : State) : TablesKept s s.cold := by
  have frame := (Startup.cold s).frame
  exact .ofReset (congrArg (·.rating) frame) (congrArg (·.plan) frame)

theorem warm_kept (s : State) (k : ResetKind) : TablesKept s (s.warm k) := by
  have frame := (Startup.warm s k).frame
  exact .ofReset (congrArg (·.rating) frame) (congrArg (·.plan) frame)

theorem StepEffect.tablesKept {s t : State} (h : StepEffect s t) : TablesKept s t := by
  cases h with
  | event leaves => exact (TablesStand.ofEvent leaves).kept
  | powerLost | replyEnded => exact TablesStand.kept ⟨rfl, rfl, rfl⟩
  | cold => exact cold_kept s
  | warm k => exact warm_kept s k
  | commitDone ok => exact commitDone_kept s ok
  | settingsDone ok => exact (TablesStand.settingsDone s ok).kept
  | storeDone ok => exact storeDone_kept s _ ok
  | loadDone ok => exact loadDone_kept s _ ok
  | answered i kind tag => exact (answer_kept s i).trans (TablesStand.kept ⟨rfl, rfl, rfl⟩)
  | malformed kind tag =>
    exact (TablesStand.ofEvent (.reqInvalid s kind)).kept.trans (TablesStand.kept ⟨rfl, rfl, rfl⟩)

/-- Settles O56: whatever a step comes to keeps the tables; the queue of commands is none of them. -/
theorem stepKeepsRatingAndPlanSound : Obligations.StepKeepsRatingAndPlanSound := by
  unfold Obligations.StepKeepsRatingAndPlanSound
  intro s t e
  obtain ⟨rest, effect⟩ := step_cases e
  have kept := effect.tablesKept
  exact ⟨kept.rating, kept.plan⟩

end Sys2Proof.Machine
end

section
/-! PROOF. Lookup in an ordered table: at its rows, between them and beyond them (R70 to R72). -/

namespace Sys2Proof.Machine

open Sys2Proof.Config

/-! Rounded lines (R2, R71). -/

/-- A whole quotient is not rounded. -/
theorem roundDiv_mul (k : Int) {d : Int} (h : 0 < d) : roundDiv (k * d) d = k := by
  obtain ⟨above, below⟩ := roundDiv_near (k * d) d h
  rw [← Int.sub_mul] at above below
  obtain less | equal | more := Int.lt_trichotomy (roundDiv (k * d) d) k
  · have far := Int.mul_le_mul_of_nonneg_right (by omega : roundDiv (k * d) d - k ≤ -1)
      (Int.le_of_lt h)
    omega
  · exact equal
  · have far := Int.mul_le_mul_of_nonneg_right (by omega : 1 ≤ roundDiv (k * d) d - k)
      (Int.le_of_lt h)
    omega

/-- Rounding keeps the order of the dividends. -/
theorem roundDiv_mono {m n d : Int} (h : 0 < d) (le : m ≤ n) : roundDiv m d ≤ roundDiv n d := by
  by_cases same : m = n
  · exact Int.le_of_eq (congrArg (roundDiv · d) same)
  · obtain ⟨above, -⟩ := roundDiv_near m d h
    obtain ⟨-, below⟩ := roundDiv_near n d h
    refine Int.not_lt.1 fun more => ?_
    have apart := Int.mul_le_mul_of_nonneg_right (by omega : roundDiv n d + 1 ≤ roundDiv m d)
      (Int.le_of_lt h)
    rw [Int.add_mul] at apart
    omega

/-- The order of two rows of a table (R69). -/
abbrev Row.Below (a b : Row) : Prop := a.stage < b.stage ∧ a.flow ≤ b.flow

theorem interpolate_low {a b : Row} (h : a.stage < b.stage) : interpolate a b a.stage = a.flow := by
  unfold interpolate
  rw [Int.sub_self, Int.mul_zero, ← Int.zero_mul (b.stage - a.stage),
    roundDiv_mul _ (Int.sub_pos_of_lt h), Int.add_zero]

theorem interpolate_high {a b : Row} (h : a.Below b) : interpolate a b b.stage = b.flow := by
  unfold interpolate
  rw [roundDiv_mul _ (Int.sub_pos_of_lt h.1)]
  omega

theorem interpolate_mono {a b : Row} (h : a.Below b) {x y : Int} (le : x ≤ y) :
    interpolate a b x ≤ interpolate a b y := by
  unfold interpolate
  refine Int.add_le_add_left (roundDiv_mono (Int.sub_pos_of_lt h.1) ?_) _
  exact Int.mul_le_mul_of_nonneg_left (by omega) (by omega)

/-! The rows in order. -/

theorem flowFrom_row (a : Row) (rest : List Row) : flowFrom (a :: rest) a.stage = (a.flow, .none) := by
  cases rest <;> simp [flowFrom]

theorem flowFrom_between {a b : Row} (rest : List Row) {x : Int} (low : a.stage < x)
    (high : x < b.stage) : flowFrom (a :: b :: rest) x = (interpolate a b x, .none) := by
  unfold flowFrom
  rw [if_neg (by omega), if_pos high]

theorem flowFrom_beyond {a b : Row} (h : a.Below b) {x : Int} (high : b.stage < x) :
    flowFrom [a, b] x = (min dischargeMax (interpolate a b x), .above) := by
  unfold flowFrom
  rw [if_neg (by omega), if_neg (by omega), if_pos (by simpa using high)]

/-- The first row is passed over at and above the second, but above the last. -/
theorem flowFrom_pass {a b : Row} (h : a.Below b) {rest : List Row} {x : Int} (low : b.stage ≤ x)
    (more : rest ≠ [] ∨ x = b.stage) : flowFrom (a :: b :: rest) x = flowFrom (b :: rest) x := by
  have within : ¬ (rest.isEmpty && decide (b.stage < x)) = true := by
    simp only [Bool.and_eq_true, List.isEmpty_iff, decide_eq_true_eq]
    rintro ⟨last, above⟩
    obtain next | here := more
    · exact next last
    · omega
  rw [flowFrom, if_neg (by omega), if_neg (by omega), if_neg within]

/-- The rows before a row at or below the stage are passed over. -/
theorem flowFrom_append {pre rest : List Row} {a : Row}
    (h : (pre ++ a :: rest).Pairwise Row.Below) {x : Int} (low : a.stage ≤ x)
    (more : rest ≠ [] ∨ x = a.stage) : flowFrom (pre ++ a :: rest) x = flowFrom (a :: rest) x := by
  induction pre with
  | nil => rfl
  | cons p pre ih =>
    obtain ⟨first, tail⟩ := List.pairwise_cons.1 h
    rw [← ih tail]
    cases pre with
    | nil => exact flowFrom_pass (first a (by simp)) low more
    | cons q pre =>
      have below : q.Below a := (List.pairwise_cons.1 tail).1 a (by simp)
      exact flowFrom_pass (first q (by simp)) (by omega) (.inl (by simp))

/-- On the first segment, its ends included, the discharge is that of the line. -/
theorem flowFrom_first {a b : Row} (rest : List Row) {x : Int} (low : a.stage ≤ x)
    (high : x < b.stage) : (flowFrom (a :: b :: rest) x).1 = interpolate a b x := by
  by_cases at_ : x = a.stage
  · subst at_
    rw [flowFrom_row, interpolate_low high]
  · rw [flowFrom_between rest (by omega) high]

/-- With two rows left the discharge is that of their line, up to the limit. -/
theorem flowFrom_last {a b : Row} (h : a.Below b) (top : b.flow ≤ dischargeMax) {x : Int}
    (low : a.stage ≤ x) : (flowFrom [a, b] x).1 = min dischargeMax (interpolate a b x) := by
  have high := interpolate_high h
  obtain below | rfl | above := Int.lt_trichotomy x b.stage
  · have le := interpolate_mono h (Int.le_of_lt below)
    rw [flowFrom_first [] low below]
    omega
  · rw [flowFrom_pass h (Int.le_refl _) (.inr rfl), flowFrom_row, high]
    exact (Int.min_eq_right top).symm
  · rw [flowFrom_beyond h above]

/-- The discharge does not fall as the stage rises. -/
theorem flowFrom_mono {a b : Row} {rest : List Row} (h : (a :: b :: rest).Pairwise Row.Below)
    (top : ∀ r ∈ a :: b :: rest, r.flow ≤ dischargeMax) {x y : Int} (low : a.stage ≤ x)
    (le : x ≤ y) : (flowFrom (a :: b :: rest) x).1 ≤ (flowFrom (a :: b :: rest) y).1 := by
  induction rest generalizing a b x with
  | nil =>
    obtain ⟨first, -⟩ := List.pairwise_cons.1 h
    have below := first b (by simp)
    have line := interpolate_mono below le
    rw [flowFrom_last below (top b (by simp)) low,
      flowFrom_last below (top b (by simp)) (Int.le_trans low le)]
    omega
  | cons c rest ih =>
    obtain ⟨first, tail⟩ := List.pairwise_cons.1 h
    have below := first b (by simp)
    have next {x : Int} (from_ : b.stage ≤ x) (to_ : x ≤ y) :=
      ih tail (fun r hr => top r (List.mem_cons_of_mem a hr)) from_ to_
    have pass {x : Int} (from_ : b.stage ≤ x) : flowFrom (a :: b :: c :: rest) x = _ :=
      flowFrom_pass below from_ (.inl (by simp))
    by_cases both : y < b.stage
    · rw [flowFrom_first _ low (by omega), flowFrom_first _ (Int.le_trans low le) both]
      exact interpolate_mono below le
    · rw [pass (Int.not_lt.1 both)]
      by_cases apart : x < b.stage
      · calc (flowFrom (a :: b :: c :: rest) x).1
          _ = interpolate a b x := flowFrom_first _ low apart
          _ ≤ interpolate a b b.stage := interpolate_mono below (Int.le_of_lt apart)
          _ = (flowFrom (b :: c :: rest) b.stage).1 := by
            rw [interpolate_high below, flowFrom_row]
          _ ≤ (flowFrom (b :: c :: rest) y).1 := next (Int.le_refl _) (Int.not_lt.1 both)
      · rw [pass (Int.not_lt.1 apart)]
        exact next (Int.not_lt.1 apart) le

/-- The discharge stays within its limit. -/
theorem flowFrom_le {a b : Row} {rest : List Row} (h : (a :: b :: rest).Pairwise Row.Below)
    (top : ∀ r ∈ a :: b :: rest, r.flow ≤ dischargeMax) {x : Int} (low : a.stage ≤ x) :
    (flowFrom (a :: b :: rest) x).1 ≤ dischargeMax := by
  induction rest generalizing a b with
  | nil =>
    obtain ⟨first, -⟩ := List.pairwise_cons.1 h
    rw [flowFrom_last (first b (by simp)) (top b (by simp)) low]
    exact Int.min_le_left _ _
  | cons c rest ih =>
    obtain ⟨first, tail⟩ := List.pairwise_cons.1 h
    have below := first b (by simp)
    by_cases near : x < b.stage
    · calc (flowFrom (a :: b :: c :: rest) x).1
        _ = interpolate a b x := flowFrom_first _ low near
        _ ≤ interpolate a b b.stage := interpolate_mono below (Int.le_of_lt near)
        _ = b.flow := interpolate_high below
        _ ≤ dischargeMax := top b (by simp)
    · rw [flowFrom_pass below (Int.not_lt.1 near) (.inl (by simp))]
      exact ih tail (fun r hr => top r (List.mem_cons_of_mem a hr)) (Int.not_lt.1 near)

/-! The lookup. -/

theorem RatingUnit.lookup_below {u : RatingUnit} {a : Row} {rest : List Row}
    (h : u.active = a :: rest) {x : Int} (low : x < a.stage) :
    u.lookup x = { flow := some 0, flag := .below, generation := some u.generation } := by
  unfold RatingUnit.lookup
  rw [h]
  exact if_pos low

theorem RatingUnit.lookup_flowFrom {u : RatingUnit} {a : Row} {rest : List Row}
    (h : u.active = a :: rest) {x : Int} (low : a.stage ≤ x) :
    u.lookup x =
      { flow := some (flowFrom (a :: rest) x).1, flag := (flowFrom (a :: rest) x).2
        generation := some u.generation } := by
  unfold RatingUnit.lookup
  rw [h]
  exact if_neg (Int.not_lt.2 low)

/-- From a row at or below the stage on, the rows before it do not matter. -/
theorem RatingUnit.lookup_append {u : RatingUnit} {pre rest : List Row} {a : Row}
    (e : u.active = pre ++ a :: rest) (h : u.active.Pairwise Row.Below) {x : Int}
    (low : a.stage ≤ x) (more : rest ≠ [] ∨ x = a.stage) :
    u.lookup x =
      { flow := some (flowFrom (a :: rest) x).1, flag := (flowFrom (a :: rest) x).2
        generation := some u.generation } := by
  rw [← flowFrom_append (e ▸ h) low more]
  cases pre with
  | nil => exact lookup_flowFrom e low
  | cons p pre =>
    have below : p.Below a := (List.pairwise_cons.1 (e ▸ h)).1 a (by simp)
    exact lookup_flowFrom e (by omega)

/-- The discharge of a lookup in a table with a first row (R71, R72). -/
theorem RatingUnit.lookup_flow {u : RatingUnit} {a : Row} {rest : List Row}
    (h : u.active = a :: rest) (x : Int) :
    (u.lookup x).flow = some (if x < a.stage then 0 else (flowFrom (a :: rest) x).1) := by
  split
  · next low => rw [lookup_below h low]
  · next low => rw [lookup_flowFrom h (Int.not_lt.1 low)]

/-- Two neighbours of a table, and the rows on both sides of them. -/
theorem neighbours_split {l : List Row} {k : Nat} {a b : Row} (ha : l[k]? = some a)
    (hb : l[k + 1]? = some b) : l = l.take k ++ a :: b :: l.drop (k + 2) := by
  obtain ⟨below, rfl⟩ := List.getElem?_eq_some_iff.1 ha
  obtain ⟨within, rfl⟩ := List.getElem?_eq_some_iff.1 hb
  rw [← List.drop_eq_getElem_cons, ← List.drop_eq_getElem_cons, List.take_append_drop]

theorem neighbours_below {l : List Row} (h : l.Pairwise Row.Below) {k : Nat} {a b : Row}
    (ha : l[k]? = some a) (hb : l[k + 1]? = some b) : a.Below b := by
  rw [neighbours_split ha hb] at h
  obtain ⟨-, pair, -⟩ := List.pairwise_append.1 h
  exact (List.pairwise_cons.1 pair).1 b (by simp)

/-- Settles O34: the rows before the stage are passed over, and rounding keeps order. -/
theorem lookupFollowsTable : Obligations.LookupFollowsTable := by
  unfold Obligations.LookupFollowsTable
  intro u
  refine ⟨fun empty x => by unfold RatingUnit.lookup; rw [empty], fun ordered => ?_⟩
  obtain ⟨two, -, ascends, sound⟩ := ordered
  have flows (r : Row) (hr : r ∈ u.active) : 0 ≤ r.flow ∧ r.flow ≤ dischargeMax := by
    obtain ⟨-, -, least, most⟩ := sound r hr
    exact ⟨least, most⟩
  obtain ⟨first, second, rest, active⟩ : ∃ a b rest, u.active = a :: b :: rest := by
    match u.active, two with
    | a :: b :: rest, _ => exact ⟨a, b, rest, rfl⟩
  have least : 0 ≤ first.flow := (flows first (by simp [active])).1
  have top : ∀ r ∈ first :: second :: rest, r.flow ≤ dischargeMax := fun r hr =>
    (flows r (active ▸ hr)).2
  have flow := RatingUnit.lookup_flow active
  have mono {x y : Int} := flowFrom_mono (x := x) (y := y) (active ▸ ascends) top
  have positive {x : Int} (low : first.stage ≤ x) :
      0 ≤ (flowFrom (first :: second :: rest) x).1 := by
    have from_ := mono (Int.le_refl _) low
    rw [flowFrom_row] at from_
    exact Int.le_trans least from_
  refine ⟨fun r hr => ?_, fun x r head low => ?_, fun k a b x ha hb => ⟨?_, ?_⟩, fun x => ?_,
    fun x y q p le hq hp => ?_⟩
  · obtain ⟨pre, post, split⟩ := List.append_of_mem hr
    rw [RatingUnit.lookup_append split ascends (Int.le_refl _) (.inr rfl), flowFrom_row]
  · rw [active] at head
    cases head
    exact RatingUnit.lookup_below active low
  · intro low high
    have split := neighbours_split ha hb
    have below := neighbours_below ascends ha hb
    have upper := interpolate_mono below (Int.le_of_lt high)
    have lower := interpolate_mono below (Int.le_of_lt low)
    rw [interpolate_high below] at upper
    rw [interpolate_low below.1] at lower
    rw [RatingUnit.lookup_append split ascends (Int.le_of_lt low) (.inl (by simp)),
      flowFrom_between _ low high]
    exact ⟨rfl, lower, upper⟩
  · intro last high
    have split := neighbours_split ha hb
    have below := neighbours_below ascends ha hb
    rw [List.drop_eq_nil_of_le (Nat.le_of_eq last.symm)] at split
    rw [RatingUnit.lookup_append split ascends (by omega) (.inl (by simp)),
      flowFrom_beyond below high]
    rfl
  · rw [flow]
    refine ⟨_, rfl, ?_⟩
    split
    · decide
    · next low =>
      exact ⟨positive (Int.not_lt.1 low),
        flowFrom_le (active ▸ ascends) top (Int.not_lt.1 low)⟩
  · rw [flow] at hq hp
    cases hq
    cases hp
    split
    · split
      · exact Int.le_refl _
      · next high => exact positive (Int.not_lt.1 high)
    · next low =>
      rw [if_neg (by omega)]
      exact mono (Int.not_lt.1 low) le

end Sys2Proof.Machine
end

section
/-! PROOF. The rating table edited and committed (R73 to R78, R120, R121). -/

namespace Sys2Proof.Machine

open Sys2Proof.Config

/-! PUT_RATING_ROW (R73). -/

/-- The outcome of PUT_RATING_ROW: CLAMPED where either value was brought in (R73). -/
def rowCode (stage flow : Int) : ReplyCode :=
  if (clampedRow stage flow).stage = stage ∧ (clampedRow stage flow).flow = flow then .ok
  else .clamped

theorem answered_rowCode (s : State) (stage flow : Int) (b : ReplyBody) :
    s.answered (decide ((clampedRow stage flow).stage ≠ stage) ||
      decide ((clampedRow stage flow).flow ≠ flow)) b =
      { state := s, code := rowCode stage flow, body := b } := by
  unfold State.answered rowCode
  congr 1
  by_cases same : (clampedRow stage flow).stage = stage ∧ (clampedRow stage flow).flow = flow
  · obtain ⟨h, k⟩ := same
    simp [h, k]
  · have changed := Decidable.not_and_iff_or_not.1 same
    rw [if_neg same, if_pos (by simpa using changed)]

theorem reqPutRow_replaces {s : State} {index : Nat} (h : index < s.rating.staging.length)
    (stage flow : Int) :
    s.reqPutRow index stage flow =
      { state :=
          { s with
            rating :=
              { s.rating with staging := s.rating.staging.set index (clampedRow stage flow) } }
        code := rowCode stage flow
        body := .ratingRow (clampedRow stage flow) s.rating.staging.length } := by
  rw [← answered_rowCode]
  exact if_pos h

theorem reqPutRow_appends {s : State} {index : Nat} (h : index = s.rating.staging.length)
    (k : s.rating.staging.length < 24) (stage flow : Int) :
    s.reqPutRow index stage flow =
      { state :=
          { s with
            rating :=
              { s.rating with staging := s.rating.staging ++ [clampedRow stage flow] } }
        code := rowCode stage flow
        body := .ratingRow (clampedRow stage flow) (s.rating.staging.length + 1) } := by
  rw [← answered_rowCode]
  exact (if_neg (by omega)).trans (if_pos ⟨h, k⟩)

theorem reqPutRow_refused {s : State} {index : Nat}
    (h : ¬ index < s.rating.staging.length)
    (k : ¬ (index = s.rating.staging.length ∧ s.rating.staging.length < 24)) (stage flow : Int) :
    s.reqPutRow index stage flow = s.plain .invalid := (if_neg h).trans (if_neg k)

/-! COMMIT_RATING (R75, R76, R120). -/

/-- Rows in order are passed over in the search for the lowest row out of order (R75). -/
theorem orderFault_append {pre rest : List Row} {a : Row} (i : Nat)
    (h : (pre ++ [a]).Pairwise Row.Below) :
    orderFault i (pre ++ a :: rest) = orderFault (i + pre.length) (a :: rest) := by
  induction pre generalizing i with
  | nil => rfl
  | cons p pre ih =>
    obtain ⟨first, tail⟩ := List.pairwise_cons.1 h
    have pass {b : Row} {l : List Row} (k : p.Below b) :
        orderFault i (p :: b :: l) = orderFault (i + 1) (b :: l) := by
      rw [orderFault_cons, if_neg (by omega), if_neg (by omega)]
    have step : orderFault i (p :: (pre ++ a :: rest)) = orderFault (i + 1) (pre ++ a :: rest) := by
      cases pre with
      | nil => exact pass (first a (by simp))
      | cons q pre => exact pass (first q (by simp))
    rw [List.cons_append, step, ih (i + 1) tail, List.length_cons, Nat.add_right_comm,
      Nat.add_assoc]

/-- The fault of a table whose rows 0 to i are in order is that of rows i and i + 1, if any (R75). -/
theorem commitFault_at {rows : List Row} {i : Nat} {a b : Row} (ha : rows[i]? = some a)
    (hb : rows[i + 1]? = some b) (h : (rows.take (i + 1)).Pairwise Row.Below) :
    commitFault rows = orderFault (i + 1) (a :: b :: rows.drop (i + 2)) := by
  obtain ⟨below, -⟩ := List.getElem?_eq_some_iff.1 hb
  obtain ⟨within, at_⟩ := List.getElem?_eq_some_iff.1 ha
  rw [List.take_succ_eq_append_getElem within, at_] at h
  unfold commitFault
  rw [if_neg (by omega)]
  refine (congrArg (orderFault 1) (neighbours_split ha hb)).trans ?_
  rw [orderFault_append 1 h, List.length_take_of_le (by omega), Nat.add_comm]

theorem reqCommit_faulty {s : State} {f : CommitFault} (h : commitFault s.rating.staging = some f) :
    s.reqCommit =
      { state := s, code := .invalid, body := .commitFault f s.rating.staging.length } := by
  simp only [State.reqCommit, h]

theorem reqCommit_busy {s : State} {op : FlashOp} (h : commitFault s.rating.staging = none)
    (k : s.flash.op = some op) : s.reqCommit = s.busyWith op := by
  simp only [State.reqCommit, h, k]

theorem reqCommit_accepted {s : State} (h : commitFault s.rating.staging = none)
    (k : s.flash.op = none) :
    s.reqCommit =
      { state :=
          { s with
            rating := { s.rating with image := some s.rating.staging, stored := none }
            flash :=
              { s.flash with
                op := some { cls := .rating, slot := none, mono := s.time.mono } } }
        code := .accepted
        body := .commit s.rating.staging.length (nextGeneration s.rating.generation) } := by
  simp only [State.reqCommit, h, k]
  rfl

/-! The end of the commit (R77, R78, R121). -/

/-- An ended operation keeps its outcome and raises its notice (R121). -/
theorem State.concludeOp_powered {s : State} (h : s.powered = true) (n : LongOpNotice) :
    s.concludeOp n =
      { s with
        flash := s.flash.keep n.cls n.outcome
        link := { s.link with queue := enqueue (.longOp n) s.link.queue }
        outs := { s.outs with attn := true } } := by
  unfold State.concludeOp
  exact State.raise_powered (by exact h) _

theorem exec_ratingCommitComplete {s : State} (h : s.powered = true) {op : FlashOp}
    (flight : s.flash.op = some op) (cls : op.cls = .rating) (ok : Bool) :
    exec (.ratingCommitComplete ok) s = .next (s.commitDone ok) := by
  have rating : s.inFlight .rating = true := by simp [State.inFlight, flight, cls]
  exact congrArg _ ((State.onMain_powered h _).trans (if_pos rating))

theorem commitDone_ok {s : State} (h : s.powered = true) {rows : List Row}
    (image : s.rating.image = some rows) :
    s.commitDone true =
      let g := nextGeneration s.rating.generation
      { s with
        rating :=
          { s.rating with
            active := rows, generation := g, image := none
            stored := some (programRating rows g) }
        flash := { s.flash with op := none, lastRating := some .ok }
        outs := { s.outs with attn := true }
        link :=
          { s.link with
            queue :=
              enqueue
                (.longOp
                  { s.longOp .rating .ok with
                    generation := some g, rows := some rows.length }) s.link.queue } } := by
  simp only [State.commitDone, image, if_true]
  exact State.concludeOp_powered (by exact h) _

theorem commitDone_failed {s : State} (h : s.powered = true) {rows : List Row}
    (image : s.rating.image = some rows) :
    s.commitDone false =
      { s with
        rating := { s.rating with stored := none, image := none }
        flash := { s.flash with op := none, lastRating := some .flashError }
        outs := { s.outs with attn := true }
        link :=
          { s.link with
            queue :=
              enqueue
                (.longOp
                  { s.longOp .rating .flashError with
                    generation := some s.rating.generation, rows := some rows.length })
                s.link.queue } } := by
  simp only [State.commitDone, image, Bool.false_eq_true, if_false]
  exact State.concludeOp_powered (by exact h) _

/-! The requests as commands. -/

theorem exec_putRatingRow {s : State} (h : s.ready) (tag : Byte) (index : Nat) (stage flow : Int)
    {a : Answer} (e : s.reqPutRow index stage flow = a) :
    exec (.putRatingRow tag index stage flow) s = .next (a.state.replied 0x30 tag a.code a.body) := by
  subst e
  exact congrArg _ (State.serve_ready h 0x30 tag fun t => t.reqPutRow index stage flow)

theorem exec_commitRating {s : State} (h : s.ready) (tag : Byte) {a : Answer}
    (e : s.reqCommit = a) :
    exec (.commitRating tag) s = .next (a.state.replied 0x33 tag a.code a.body) := by
  subst e
  exact congrArg _ (State.serve_ready h 0x33 tag State.reqCommit)

/-- Settles O33: each request by its answer, and the end of the commit by its outcome. -/
theorem ratingTableEditedAndCommitted : Obligations.RatingTableEditedAndCommitted := by
  unfold Obligations.RatingTableEditedAndCommitted
  refine ⟨fun tag index stage flow s ready length => ⟨fun below => ?_, fun next room => ?_,
    fun beyond => ?_⟩, fun tag s => ⟨fun ready => ⟨?_, fun few => ?_, fun i a b ha hb sorted =>
    ⟨fun fault => ?_, fun rises fault => ?_⟩, fun op ordered flight => ?_, fun ordered idle => ?_⟩,
    fun op image powered flight cls held => ⟨?_, ?_⟩⟩⟩
  · exact exec_putRatingRow ready tag _ _ _ (reqPutRow_replaces below stage flow)
  · exact exec_putRatingRow ready tag _ _ _ (reqPutRow_appends next room stage flow)
  · exact exec_putRatingRow ready tag _ _ _
      (reqPutRow_refused (by omega) (by omega) stage flow)
  · exact congrArg _ (State.serve_ready ready 0x31 tag State.reqClearStaging)
  · exact exec_commitRating ready tag (reqCommit_faulty (if_pos few))
  · refine exec_commitRating ready tag (reqCommit_faulty ?_)
    rw [commitFault_at ha hb sorted, orderFault_cons, if_pos fault]
  · refine exec_commitRating ready tag (reqCommit_faulty ?_)
    rw [commitFault_at ha hb sorted, orderFault_cons, if_neg (Int.not_le.2 rises), if_pos fault]
  · exact exec_commitRating ready tag (reqCommit_busy (commitFault_eq_none.2 ordered) flight)
  · exact exec_commitRating ready tag (reqCommit_accepted (commitFault_eq_none.2 ordered) idle)
  · rw [exec_ratingCommitComplete powered flight cls, commitDone_ok powered held]
    rfl
  · rw [exec_ratingCommitComplete powered flight cls, commitDone_failed powered held]
    rfl

end Sys2Proof.Machine
end
